-- ==== Sys2Proof/Word.lean ====
section
/-! DEFINITION. The plain words the core is made of (spec/00_scope.md R6, R7, R8): widths and index ranges, nothing else.
Every value is unsigned (R8); a write truncates to the width of its destination, which the types below give. -/

namespace Sys2Proof

/-- `REGW`: a general register, a timer, a memory byte (00_scope R6). -/
abbrev Byte := BitVec 8

/-- `IW`, `PCW`: the index register, the program counter, a stack slot, an instruction word (00_scope R6, 30_encoding R71). -/
abbrev Word := BitVec 16

/-- The field NNN, a 12-bit address (30_encoding R71). -/
abbrev Addr12 := BitVec 12

/-- A register index, the fields X and Y (10_state R21): `NREGS` is 16. -/
abbrev Reg := Fin 16

/-- A key number (10_state R31): `NKEYS` is 16. -/
abbrev Key := Fin 16

/-- The flag register VF is V[15] (10_state R22). -/
abbrev vf : Reg := 15

end Sys2Proof
end

