-- ==== Sys2Proof/Config.lean ====
section
/-! DEFINITION. What is fixed for a given core (spec/00_scope.md R6) and the values the spec leaves free
(spec/60_exceptions.md R223). -/

namespace Sys2Proof

/-- `SHIFT_SRC`: the source register of 8XY6 and 8XYE (00_scope R6, decision D13). -/
inductive ShiftSrc where
  | vx
  | vy
deriving DecidableEq, Repr

/-- `LDST_INC`: whether FX55 and FX65 add X+1 to I (00_scope R6, decision D14). -/
inductive LdstInc where
  | none
  | xplus1
deriving DecidableEq, Repr

/-- `FX0A_TRIGGER`: how FX0A recognises a key (00_scope R6, decision D15). -/
inductive Fx0aTrigger where
  | level
  | edge
deriving DecidableEq, Repr

/-- `MEMSIZE`: 4096 bytes, addresses 0x000..0xFFF (00_scope R6, 20_memory R50). -/
abbrev memSize : Nat := 4096

/-- `PROG_BASE`: the load address of the program and the reset value of PC (00_scope R6). -/
abbrev progBase : Nat := 0x200

/-- `PROG_MAX`: the longest program LOAD takes (00_scope R6, 60_exceptions R207). -/
abbrev progMax : Nat := 3584

/-- `FBW` x `FBH`: 64 x 32 cells (00_scope R6, 10_state R30). -/
abbrev fbWidth : Nat := 64

/-- `FBW` x `FBH` in all (10_state R30). -/
abbrev fbSize : Nat := 2048

/-- The parameters of a core (00_scope R6): fixed for a given core, changed by no instruction and no
transaction (10_state R36). -/
structure Params where
  shiftSrc    : ShiftSrc
  ldstInc     : LdstInc
  fx0aTrigger : Fx0aTrigger
  font        : Vector Byte 80   -- FONT: 16 glyphs of 5 bytes (10_state R40)
deriving DecidableEq, Repr

/-- The default `FONT` (10_state R40). PRESUMED: the spec marks these bytes as general knowledge, log 2; unsafe for a claim
about glyph pixels that does not name the font. -/
def fontDefault : Vector Byte 80 := #v[
  0xF0, 0x90, 0x90, 0x90, 0xF0,
  0x20, 0x60, 0x20, 0x20, 0x70,
  0xF0, 0x10, 0xF0, 0x80, 0xF0,
  0xF0, 0x10, 0xF0, 0x10, 0xF0,
  0x90, 0x90, 0xF0, 0x10, 0x10,
  0xF0, 0x80, 0xF0, 0x10, 0xF0,
  0xF0, 0x80, 0xF0, 0x90, 0xF0,
  0xF0, 0x10, 0x20, 0x40, 0x40,
  0xF0, 0x90, 0xF0, 0x90, 0xF0,
  0xF0, 0x90, 0xF0, 0x10, 0xF0,
  0xF0, 0x90, 0xF0, 0x90, 0x90,
  0xE0, 0x90, 0xE0, 0x90, 0xE0,
  0xF0, 0x80, 0x80, 0x80, 0xF0,
  0xE0, 0x90, 0x90, 0x90, 0xE0,
  0xF0, 0x80, 0xF0, 0x80, 0xF0,
  0xF0, 0x80, 0xF0, 0x80, 0x80]

/-- The defaults of 00_scope R6. -/
def defaultParams : Params :=
  { shiftSrc := .vx, ldstInc := .none, fx0aTrigger := .level, font := fontDefault }

/-- `RAND`, the draw of CXNN: any 8-bit value, fresh at each use (60_exceptions R223, decision D17). Free value: no body, so
no proof can learn a value of it. It is applied to the count of draws taken so far. Log 3; safe for a claim about one run. -/
opaque Config.rand : Nat → Byte

/-- The draw behind `KEYCHOICE(S)` of FX0A: reduced modulo the size of the non-empty set S it picks any member of S, fresh at
each use (60_exceptions R223, decision D16). Free value, log 4; safe for a claim about one run. -/
opaque Config.keyDraw : Nat → Nat

end Sys2Proof
end

