-- ==== Sys2Proof/Machine/State.lean ====
section
/-! DEFINITION. The Machine State (spec/10_state.md R20), its reset value (R39), and the reasons a step can stop. State is plain
data. Three fields are the model's own and not the spec's: `cfg`, `draws` and `events` (logs 1, 3 and 5). -/

namespace Sys2Proof.Machine

/-- The five fault causes of 60_exceptions R200. -/
inductive Cause where
  | fetchRange       -- code 1: a fetch with PC > 0xFFE
  | dataRange        -- code 2: an effective address > 0xFFF
  | stackOverflow    -- code 3: 2NNN at SP = 16
  | stackUnderflow   -- code 4: 00EE at SP = 0
  | keyRange         -- code 5: EX9E or EXA1 with V[X] > 0xF
deriving DecidableEq, Repr

/-- An event on the core's event output (60_exceptions R206). -/
inductive Event where
  | decodeError (pc : Word) (w : Word)
deriving DecidableEq, Repr

/-- Why a step stops without a next state. -/
inductive Fault where
  /-- Raised by `step` alone, when FAULT = 1: the step is not enabled (60_exceptions R203, 30_encoding R70). Taking one of the
  five faults of R200 is NOT this: that is a next state whose fault record is written. Safe: the spec gives no step there. -/
  | halted
deriving DecidableEq, Repr

/-- Why an instruction has no meaning in this model. -/
inductive Refusal where
  /-- Raised by an arm of `exec` whose instruction has no meaning yet. Safe: nothing can be proved of it. No arm raises it. -/
  | notModelled (mnemonic : String)
deriving DecidableEq, Repr

/-- Memory: the bytes that differ from what INIT leaves, sorted by address, no repeats (log 7). -/
abbrev Memory := List Host.Cell

/-- The framebuffer: cell p is column p mod 64, row p div 64 (10_state R30). -/
abbrev Framebuffer := Vector Bool fbSize

/-- The Machine State (10_state R20). -/
structure State where
  mem    : Memory          -- MEM[0..4095]
  v      : Vector Byte 16  -- V[0..15]
  index  : Word            -- I
  pc     : Word            -- PC
  stack  : Vector Word 16  -- STACK[0..15]
  sp     : Fin 17          -- SP, 0..16
  dt     : Byte            -- DT
  st     : Byte            -- ST
  fb     : Framebuffer     -- FB[0..2047]
  key    : Vector Bool 16  -- KEY[0..15]
  op     : Word            -- OP
  draw   : Bool            -- DRAW
  fault  : Bool            -- FAULT
  fcause : Option Cause    -- FCAUSE, none is code 0
  fpc    : Word            -- FPC
  fop    : Word            -- FOP
  wait   : Bool            -- WAIT
  ksnap  : Vector Bool 16  -- KSNAP[0..15]
  cfg    : Params          -- the model's own: the parameters of 00_scope R6
  draws  : Nat             -- the model's own: draws taken so far (60_exceptions R223)
  events : List Event      -- the model's own: the event output, oldest first (60_exceptions R206)
deriving DecidableEq, Repr

/-- Every field at the value of 10_state R39, for a core with the given parameters. Memory lists nothing: an unlisted byte reads
as what INIT writes there (log 7). -/
def State.resetWith (cfg : Params) : State :=
  { mem := []
    v := Vector.replicate 16 0
    index := 0
    pc := 0x200
    stack := Vector.replicate 16 0
    sp := 0
    dt := 0
    st := 0
    fb := Vector.replicate fbSize false
    key := Vector.replicate 16 false
    op := 0
    draw := false
    fault := false
    fcause := none
    fpc := 0
    fop := 0
    wait := false
    ksnap := Vector.replicate 16 false
    cfg := cfg
    draws := 0
    events := [] }

/-- The machine right after reset (70_reset_and_hazards R240, 10_state R39), with the default parameters of 00_scope R6. -/
def State.reset : State := State.resetWith defaultParams

end Sys2Proof.Machine
end

