-- ==== Sys2Proof/Machine/Flags.lean ====
section
/-! DEFINITION. Every flag computation of the spec (41_alu R110, R123): each is a value of VF, 0x00 or 0x01, computed from the
untruncated operands. -/

namespace Sys2Proof.Machine

/-- A flag as VF holds it: 1 or 0 (10_state R22). -/
def flagByte (b : Bool) : Byte := if b then 1 else 0

/-- The carry of 8XY4: 1 exactly when the untruncated sum is above 255 (41_alu R117). -/
def carryFlag (a b : Byte) : Byte := flagByte (decide (a.toNat + b.toNat > 255))

/-- The no-borrow flag of `a - b` in 8XY5 and 8XY7: 0 when `b > a`, else 1 (41_alu R118, R120). -/
def noBorrowFlag (a b : Byte) : Byte := if b.toNat > a.toNat then 0 else 1

/-- The bit 8XY6 shifts out: bit 0 of the source (41_alu R119). -/
def shrFlag (s : Byte) : Byte := s &&& 0x01

/-- The bit 8XYE shifts out: bit 7 of the source (41_alu R121). -/
def shlFlag (s : Byte) : Byte := s >>> 7

/-- The range flag of FX1E, on the stored 16-bit index (42_index_memory R141, decision D12). -/
def rangeFlag (newI : Word) : Byte := flagByte (decide (newI.toNat > 0xFFF))

/-- The result of an addition: the sum modulo 256 (41_alu R110). -/
def sumByte (a b : Byte) : Byte := BitVec.ofNat 8 (a.toNat + b.toNat)

/-- The result of a subtraction: `trunc_8(a - b + 256)` (41_alu R110). -/
def differenceByte (a b : Byte) : Byte := BitVec.ofNat 8 (a.toNat + 256 - b.toNat)

/-- The result of 8XY6: the source shifted right by one, bit 7 is 0 (41_alu R119). -/
def shrByte (s : Byte) : Byte := s >>> 1

/-- The result of 8XYE: the source shifted left by one, modulo 256 (41_alu R121). -/
def shlByte (s : Byte) : Byte := s <<< 1

end Sys2Proof.Machine
end

