-- ==== Sys2Proof/Syntax.lean ====
section
/-! DEFINITION. The 34 instructions of spec/30_encoding.md R72, one constructor per row of spec/opcode_table.json, in the
table's order. Operand fields have exactly the widths of 30_encoding R71: X and Y are register indices 0..15, N is a count
0..15, NN is 8 bits, NNN is 12 bits. -/

namespace Sys2Proof

inductive Instr where
  | cls                               -- 00E0  R160
  | ret                               -- 00EE  R90
  | jp      (nnn : Addr12)            -- 1NNN  R91
  | call    (nnn : Addr12)            -- 2NNN  R92
  | seImm   (x : Reg) (nn : Byte)     -- 3XNN  R94
  | sneImm  (x : Reg) (nn : Byte)     -- 4XNN  R95
  | seReg   (x y : Reg)               -- 5XY0  R96
  | ldImm   (x : Reg) (nn : Byte)     -- 6XNN  R111
  | addImm  (x : Reg) (nn : Byte)     -- 7XNN  R112
  | ldReg   (x y : Reg)               -- 8XY0  R113
  | orReg   (x y : Reg)               -- 8XY1  R114
  | andReg  (x y : Reg)               -- 8XY2  R115
  | xorReg  (x y : Reg)               -- 8XY3  R116
  | addReg  (x y : Reg)               -- 8XY4  R117
  | subReg  (x y : Reg)               -- 8XY5  R118
  | shr     (x y : Reg)               -- 8XY6  R119
  | subnReg (x y : Reg)               -- 8XY7  R120
  | shl     (x y : Reg)               -- 8XYE  R121
  | sneReg  (x y : Reg)               -- 9XY0  R97
  | ldI     (nnn : Addr12)            -- ANNN  R140
  | jpV0    (nnn : Addr12)            -- BNNN  R93
  | rnd     (x : Reg) (nn : Byte)     -- CXNN  R122
  | drw     (x y : Reg) (n : Fin 16)  -- DXYN  R161
  | skp     (x : Reg)                 -- EX9E  R180
  | sknp    (x : Reg)                 -- EXA1  R181
  | ldVxDt  (x : Reg)                 -- FX07  R182
  | ldVxK   (x : Reg)                 -- FX0A  R183
  | ldDtVx  (x : Reg)                 -- FX15  R184
  | ldStVx  (x : Reg)                 -- FX18  R185
  | addI    (x : Reg)                 -- FX1E  R141
  | ldF     (x : Reg)                 -- FX29  R142
  | ldB     (x : Reg)                 -- FX33  R143
  | stRegs  (x : Reg)                 -- FX55  R144
  | ldRegs  (x : Reg)                 -- FX65  R145
deriving DecidableEq, Repr

end Sys2Proof
end

