-- ==== Sys2Proof/WellFormed.lean ====
section
/-! DEFINITION. What is well-formed. Every term of `Instr` is well-formed by its type: each operand field has exactly the
values the encoding admits (30_encoding R71, R78: "Every field that a row's mask leaves open is a free operand field"). What
needs a check is a fetched WORD: it is well-formed when it matches a row of the opcode table (30_encoding R72), and a decode
error otherwise (R76, R77). The table below is R72's own, kept apart from the decoder so that the two can be compared. -/

namespace Sys2Proof

/-- One row of the opcode table of 30_encoding R72. -/
structure OpcodeRow where
  pattern : String
  value   : Word      -- the column "match"
  mask    : Word
deriving DecidableEq, Repr

/-- R72: "the instruction whose row in the table below has `w & mask = match`". -/
def OpcodeRow.admits (r : OpcodeRow) (w : Word) : Bool := w &&& r.mask == r.value

/-- The row of each instruction: mask and match as 30_encoding R72 gives them. -/
def Instr.row : Instr → OpcodeRow
  | .cls => ⟨"00E0", 0x00E0, 0xFFFF⟩
  | .ret => ⟨"00EE", 0x00EE, 0xFFFF⟩
  | .jp _ => ⟨"1NNN", 0x1000, 0xF000⟩
  | .call _ => ⟨"2NNN", 0x2000, 0xF000⟩
  | .seImm _ _ => ⟨"3XNN", 0x3000, 0xF000⟩
  | .sneImm _ _ => ⟨"4XNN", 0x4000, 0xF000⟩
  | .seReg _ _ => ⟨"5XY0", 0x5000, 0xF00F⟩
  | .ldImm _ _ => ⟨"6XNN", 0x6000, 0xF000⟩
  | .addImm _ _ => ⟨"7XNN", 0x7000, 0xF000⟩
  | .ldReg _ _ => ⟨"8XY0", 0x8000, 0xF00F⟩
  | .orReg _ _ => ⟨"8XY1", 0x8001, 0xF00F⟩
  | .andReg _ _ => ⟨"8XY2", 0x8002, 0xF00F⟩
  | .xorReg _ _ => ⟨"8XY3", 0x8003, 0xF00F⟩
  | .addReg _ _ => ⟨"8XY4", 0x8004, 0xF00F⟩
  | .subReg _ _ => ⟨"8XY5", 0x8005, 0xF00F⟩
  | .shr _ _ => ⟨"8XY6", 0x8006, 0xF00F⟩
  | .subnReg _ _ => ⟨"8XY7", 0x8007, 0xF00F⟩
  | .shl _ _ => ⟨"8XYE", 0x800E, 0xF00F⟩
  | .sneReg _ _ => ⟨"9XY0", 0x9000, 0xF00F⟩
  | .ldI _ => ⟨"ANNN", 0xA000, 0xF000⟩
  | .jpV0 _ => ⟨"BNNN", 0xB000, 0xF000⟩
  | .rnd _ _ => ⟨"CXNN", 0xC000, 0xF000⟩
  | .drw _ _ _ => ⟨"DXYN", 0xD000, 0xF000⟩
  | .skp _ => ⟨"EX9E", 0xE09E, 0xF0FF⟩
  | .sknp _ => ⟨"EXA1", 0xE0A1, 0xF0FF⟩
  | .ldVxDt _ => ⟨"FX07", 0xF007, 0xF0FF⟩
  | .ldVxK _ => ⟨"FX0A", 0xF00A, 0xF0FF⟩
  | .ldDtVx _ => ⟨"FX15", 0xF015, 0xF0FF⟩
  | .ldStVx _ => ⟨"FX18", 0xF018, 0xF0FF⟩
  | .addI _ => ⟨"FX1E", 0xF01E, 0xF0FF⟩
  | .ldF _ => ⟨"FX29", 0xF029, 0xF0FF⟩
  | .ldB _ => ⟨"FX33", 0xF033, 0xF0FF⟩
  | .stRegs _ => ⟨"FX55", 0xF055, 0xF0FF⟩
  | .ldRegs _ => ⟨"FX65", 0xF065, 0xF0FF⟩

/-- One instruction of each row, in the table's order. -/
def rowSamples : List Instr :=
  [.cls, .ret, .jp 0, .call 0, .seImm 0 0, .sneImm 0 0, .seReg 0 0, .ldImm 0 0, .addImm 0 0] ++
  [.ldReg 0 0, .orReg 0 0, .andReg 0 0, .xorReg 0 0, .addReg 0 0, .subReg 0 0, .shr 0 0, .subnReg 0 0, .shl 0 0] ++
  [.sneReg 0 0, .ldI 0, .jpV0 0, .rnd 0 0, .drw 0 0 0, .skp 0, .sknp 0] ++
  [.ldVxDt 0, .ldVxK 0, .ldDtVx 0, .ldStVx 0, .addI 0, .ldF 0, .ldB 0, .stRegs 0, .ldRegs 0]

/-- The opcode table: the 34 rows of 30_encoding R72. -/
def opcodeTable : List OpcodeRow := rowSamples.map Instr.row

/-- The check on a fetched word: some row admits it (30_encoding R72, R76). -/
def wordWellFormed (w : Word) : Bool := opcodeTable.any (·.admits w)

end Sys2Proof
end

