-- ==== Sys2Proof/Decode.lean ====
section
/-! DEFINITION. Decoding and encoding (spec/30_encoding.md R71 to R77). The decoder is the two-level dispatch of R74, computing
the function of R72: the whole word in family 0, the low nibble in families 5, 8 and 9, the low byte in families E and F. It
is total: what matches no row is rejected by name. -/

namespace Sys2Proof

/-- Why bytes do not decode. -/
inductive DecodeError where
  /-- The word matches no row of the table: the event DECODE_ERROR of a step (30_encoding R76). -/
  | unassigned (w : Word)
  /-- Fewer than two bytes were given; a step never meets this, since a fetch reads two bytes (30_encoding R75). -/
  | truncated
deriving DecidableEq, Repr

/-- The family F, bits 15..12 (30_encoding R71). -/
def fieldF (w : Word) : Nat := (w.extractLsb' 12 4).toNat

/-- The field X, bits 11..8 (30_encoding R71). -/
def fieldX (w : Word) : Reg := (w.extractLsb' 8 4).toFin

/-- The field Y, bits 7..4 (30_encoding R71). -/
def fieldY (w : Word) : Reg := (w.extractLsb' 4 4).toFin

/-- The field N, bits 3..0 (30_encoding R71). -/
def fieldN (w : Word) : Fin 16 := (w.extractLsb' 0 4).toFin

/-- The field NN, bits 7..0 (30_encoding R71). -/
def fieldNN (w : Word) : Byte := w.extractLsb' 0 8

/-- The field NNN, bits 11..0 (30_encoding R71). -/
def fieldNNN (w : Word) : Addr12 := w.extractLsb' 0 12

/-- Family 0: the whole word selects (30_encoding R74, 90_conflicts C3). -/
def decodeFamily0 (w : Word) : Option Instr :=
  if w = 0x00E0 then some .cls
  else if w = 0x00EE then some .ret
  else none

/-- Family 8: the low nibble selects (30_encoding R72, R77). -/
def decodeFamily8 (w : Word) : Option Instr :=
  match (fieldN w).val with
  | 0x0 => some (.ldReg (fieldX w) (fieldY w))
  | 0x1 => some (.orReg (fieldX w) (fieldY w))
  | 0x2 => some (.andReg (fieldX w) (fieldY w))
  | 0x3 => some (.xorReg (fieldX w) (fieldY w))
  | 0x4 => some (.addReg (fieldX w) (fieldY w))
  | 0x5 => some (.subReg (fieldX w) (fieldY w))
  | 0x6 => some (.shr (fieldX w) (fieldY w))
  | 0x7 => some (.subnReg (fieldX w) (fieldY w))
  | 0xE => some (.shl (fieldX w) (fieldY w))
  | _ => none

/-- Family E: the low byte selects (30_encoding R72, R77). -/
def decodeFamilyE (w : Word) : Option Instr :=
  if fieldNN w = 0x9E then some (.skp (fieldX w))
  else if fieldNN w = 0xA1 then some (.sknp (fieldX w))
  else none

/-- Family F: the low byte selects (30_encoding R72, R77). -/
def decodeFamilyF (w : Word) : Option Instr :=
  if fieldNN w = 0x07 then some (.ldVxDt (fieldX w))
  else if fieldNN w = 0x0A then some (.ldVxK (fieldX w))
  else if fieldNN w = 0x15 then some (.ldDtVx (fieldX w))
  else if fieldNN w = 0x18 then some (.ldStVx (fieldX w))
  else if fieldNN w = 0x1E then some (.addI (fieldX w))
  else if fieldNN w = 0x29 then some (.ldF (fieldX w))
  else if fieldNN w = 0x33 then some (.ldB (fieldX w))
  else if fieldNN w = 0x55 then some (.stRegs (fieldX w))
  else if fieldNN w = 0x65 then some (.ldRegs (fieldX w))
  else none

/-- `Decode(w)` of 30_encoding R72: the instruction whose row the word matches, `none` for DECODE_ERROR. -/
def decodeWord (w : Word) : Option Instr :=
  match fieldF w with
  | 0x0 => decodeFamily0 w
  | 0x1 => some (.jp (fieldNNN w))
  | 0x2 => some (.call (fieldNNN w))
  | 0x3 => some (.seImm (fieldX w) (fieldNN w))
  | 0x4 => some (.sneImm (fieldX w) (fieldNN w))
  | 0x5 => if (fieldN w).val = 0 then some (.seReg (fieldX w) (fieldY w)) else none
  | 0x6 => some (.ldImm (fieldX w) (fieldNN w))
  | 0x7 => some (.addImm (fieldX w) (fieldNN w))
  | 0x8 => decodeFamily8 w
  | 0x9 => if (fieldN w).val = 0 then some (.sneReg (fieldX w) (fieldY w)) else none
  | 0xA => some (.ldI (fieldNNN w))
  | 0xB => some (.jpV0 (fieldNNN w))
  | 0xC => some (.rnd (fieldX w) (fieldNN w))
  | 0xD => some (.drw (fieldX w) (fieldY w) (fieldN w))
  | 0xE => decodeFamilyE w
  | _ => decodeFamilyF w

/-- The word of two bytes in memory order: the byte at the lower address is bits 15..8 (20_memory R53). -/
def wordOfBytes (hi lo : Byte) : Word := (hi.setWidth 16 <<< 8) ||| lo.setWidth 16

/-- The two bytes of a word in memory order (20_memory R53). -/
def bytesOfWord (w : Word) : Byte × Byte := (w.extractLsb' 8 8, w.extractLsb' 0 8)

/-- Decoding bytes in memory order: the instruction and the bytes after it (30_encoding R75: every instruction is exactly two
bytes long). -/
def decodeBytes : List Byte → Except DecodeError (Instr × List Byte)
  | hi :: lo :: rest =>
    match decodeWord (wordOfBytes hi lo) with
    | some i => .ok (i, rest)
    | none => .error (.unassigned (wordOfBytes hi lo))
  | _ => .error .truncated

/-- The word of a form `fXnn`: family, X, low byte (30_encoding R71). -/
def encodeXNN (f : BitVec 4) (x : Reg) (nn : Byte) : Word := f ++ BitVec.ofFin (w := 4) x ++ nn

/-- The word of a form `fXYn`: family, X, Y, low nibble (30_encoding R71). -/
def encodeXYN (f : BitVec 4) (x y : Reg) (n : Fin 16) : Word :=
  f ++ BitVec.ofFin (w := 4) x ++ BitVec.ofFin (w := 4) y ++ BitVec.ofFin (w := 4) n

/-- The word of a form `fNNN`: family, address (30_encoding R71). -/
def encodeNNN (f : BitVec 4) (nnn : Addr12) : Word := f ++ nnn

/-- The word of each instruction, from the patterns of 30_encoding R72. -/
def encode : Instr → Word
  | .cls => 0x00E0
  | .ret => 0x00EE
  | .jp nnn => encodeNNN 0x1 nnn
  | .call nnn => encodeNNN 0x2 nnn
  | .seImm x nn => encodeXNN 0x3 x nn
  | .sneImm x nn => encodeXNN 0x4 x nn
  | .seReg x y => encodeXYN 0x5 x y 0x0
  | .ldImm x nn => encodeXNN 0x6 x nn
  | .addImm x nn => encodeXNN 0x7 x nn
  | .ldReg x y => encodeXYN 0x8 x y 0x0
  | .orReg x y => encodeXYN 0x8 x y 0x1
  | .andReg x y => encodeXYN 0x8 x y 0x2
  | .xorReg x y => encodeXYN 0x8 x y 0x3
  | .addReg x y => encodeXYN 0x8 x y 0x4
  | .subReg x y => encodeXYN 0x8 x y 0x5
  | .shr x y => encodeXYN 0x8 x y 0x6
  | .subnReg x y => encodeXYN 0x8 x y 0x7
  | .shl x y => encodeXYN 0x8 x y 0xE
  | .sneReg x y => encodeXYN 0x9 x y 0x0
  | .ldI nnn => encodeNNN 0xA nnn
  | .jpV0 nnn => encodeNNN 0xB nnn
  | .rnd x nn => encodeXNN 0xC x nn
  | .drw x y n => encodeXYN 0xD x y n
  | .skp x => encodeXNN 0xE x 0x9E
  | .sknp x => encodeXNN 0xE x 0xA1
  | .ldVxDt x => encodeXNN 0xF x 0x07
  | .ldVxK x => encodeXNN 0xF x 0x0A
  | .ldDtVx x => encodeXNN 0xF x 0x15
  | .ldStVx x => encodeXNN 0xF x 0x18
  | .addI x => encodeXNN 0xF x 0x1E
  | .ldF x => encodeXNN 0xF x 0x29
  | .ldB x => encodeXNN 0xF x 0x33
  | .stRegs x => encodeXNN 0xF x 0x55
  | .ldRegs x => encodeXNN 0xF x 0x65

/-- The word an opcode-table row gives as a number: its low `nbits` bits, every bit above them 0. -/
def tableWord (nbits w : Nat) : Word := BitVec.ofNat 16 (w % 2 ^ nbits)

/-- What the decoder reads from an instruction given as a number in the opcode table's numbering: the table's word laid out in
memory order (20_memory R53) and decoded. -/
def decodeTableWord (nbits w : Nat) : Option Instr :=
  match decodeBytes [(bytesOfWord (tableWord nbits w)).1, (bytesOfWord (tableWord nbits w)).2] with
  | .ok (i, _) => some i
  | .error _ => none

end Sys2Proof
end

