-- ==== Sys2Proof/Machine/Memory.lean ====
section
/-! DEFINITION. Memory as a canonical list of cells (spec/20_memory.md R50, spec/10_state.md R39): what an unlisted byte reads
as, the read and the write of one byte, and the canonical form. -/

namespace Sys2Proof.Machine

/-- What an unlisted address reads as: the byte INIT leaves there (70 R240), the font at 0x000..0x04F and 0x00 above. -/
def resetByte (font : Vector Byte 80) (a : Nat) : Byte :=
  if h : a < 80 then font[a] else 0

/-- The byte at an address (20_memory R52). -/
def Memory.read (font : Vector Byte 80) : Memory → Nat → Byte
  | [], a => resetByte font a
  | (k, b) :: rest, a => if k = a then b else Memory.read font rest a

/-- The cells at other addresses. -/
def Memory.erase (m : Memory) (a : Nat) : Memory := m.filter (fun c => decide (c.1 ≠ a))

/-- A cell put at its place by address. -/
def Memory.insert : Memory → Nat → Byte → Memory
  | [], a, b => [(a, b)]
  | (k, c) :: rest, a, b => if k < a then (k, c) :: Memory.insert rest a b else (a, b) :: (k, c) :: rest

/-- Storing one byte (20_memory R52): the address is listed exactly when the byte differs from what it reads unlisted, so the
canonical form is kept. -/
def Memory.write (font : Vector Byte 80) (m : Memory) (a : Nat) (b : Byte) : Memory :=
  if b = resetByte font a then m.erase a else (m.erase a).insert a b

/-- Storing bytes at increasing addresses, in increasing order (20_memory R61). -/
def Memory.writeList (font : Vector Byte 80) : Memory → Nat → List Byte → Memory
  | m, _, [] => m
  | m, a, b :: bs => Memory.writeList font (Memory.write font m a b) (a + 1) bs

/-- The canonical form: addresses below 4096 strictly rising, and no cell equal to what an unlisted address reads as. -/
def Memory.wf (font : Vector Byte 80) : Memory → Bool
  | [] => true
  | (a, b) :: rest =>
    decide (a < memSize) && decide (b ≠ resetByte font a) && rest.all (fun c => decide (a < c.1)) && Memory.wf font rest

end Sys2Proof.Machine
end

