-- ==== Sys2Proof/Machine/Ops.lean ====
section
/-! DEFINITION. The named operations over the state: registers, program counter, stack, memory, timers, display, keypad; taking
a fault (spec/60_exceptions.md R201) and the decode-error event; the draws (R223); fetching a word (spec/20_memory.md R54). -/

namespace Sys2Proof.Machine

/-- What a step, an instruction or a meaning answers. -/
abbrev Answer := Host.Outcome State Fault Refusal

/-! ## Writing one field (10_state R20) -/

/-- `V[x] <- b` (10_state R21). -/
def State.setV (s : State) (x : Reg) (b : Byte) : State := { s with v := s.v.set x.val b x.isLt }
/-- All sixteen registers at once. -/
def State.setVs (s : State) (v : Vector Byte 16) : State := { s with v := v }
/-- `I <- w` (10_state R24). -/
def State.setIndex (s : State) (w : Word) : State := { s with index := w }
/-- `PC <- w` (10_state R25). -/
def State.setPc (s : State) (w : Word) : State := { s with pc := w }
/-- `DT <- b` (10_state R29). -/
def State.setDt (s : State) (b : Byte) : State := { s with dt := b }
/-- `ST <- b` (10_state R29). -/
def State.setSt (s : State) (b : Byte) : State := { s with st := b }
/-- The framebuffer (10_state R30). -/
def State.setFb (s : State) (fb : Framebuffer) : State := { s with fb := fb }
/-- `DRAW <- b` (10_state R32). -/
def State.setDraw (s : State) (b : Bool) : State := { s with draw := b }
/-- `OP <- w` (10_state R33). -/
def State.setOp (s : State) (w : Word) : State := { s with op := w }
/-- `WAIT <- b` (10_state R35). -/
def State.setWait (s : State) (b : Bool) : State := { s with wait := b }
/-- `KSNAP <- KEY` (44_keypad_timers R183). -/
def State.snapKeys (s : State) : State := { s with ksnap := s.key }
/-- The memory. -/
def State.setMem (s : State) (m : Memory) : State := { s with mem := m }
/-- `KEY[k] <- b` (60_exceptions R226). -/
def State.setKey (s : State) (k : Key) (b : Bool) : State := { s with key := s.key.set k.val b k.isLt }

/-! ## Reading -/

/-- `V[x]` (10_state R21). -/
def State.getV (s : State) (x : Reg) : Byte := s.v[x.val]
/-- `STACK[k]` (10_state R28). -/
def State.slot (s : State) (k : Fin 16) : Word := s.stack[k.val]
/-- `FB[p]` (10_state R30). -/
def State.cell (s : State) (p : Fin fbSize) : Bool := s.fb[p.val]
/-- `KEY[k]` (10_state R31). -/
def State.pressed (s : State) (k : Key) : Bool := s.key[k.val]
/-- `KSNAP[k]` (10_state R35). -/
def State.snapped (s : State) (k : Key) : Bool := s.ksnap[k.val]
/-- `MEM[a]`, the byte at an address below 4096 (20_memory R50). -/
def State.peek (s : State) (a : Nat) : Byte := Memory.read s.cfg.font s.mem a
/-- The code of FCAUSE (60_exceptions R200), 0 when there is none. -/
def causeCode : Option Cause → Nat
  | none => 0
  | some .fetchRange => 1
  | some .dataRange => 2
  | some .stackOverflow => 3
  | some .stackUnderflow => 4
  | some .keyRange => 5

/-! ## The program counter (30_encoding R79) -/

/-- `PC <- pc + 2`, modulo 65536. -/
def State.advance (s : State) : State := s.setPc (s.pc + 2)
/-- A skip: `pc + 4` when the condition holds, else `pc + 2` (30_encoding R79, 40_control R98). -/
def State.skipIf (s : State) (c : Bool) : State := s.setPc (if c then s.pc + 4 else s.pc + 2)

/-! ## Taking a fault (60_exceptions R201) -/

/-- Fault entry: the record is written and nothing else; there is no vector and no handler (60_exceptions R201, R205). The pc is
still that of the faulting fetch or instruction, and OP is the fetched word, or the previous OP for a fetch fault. The way out
is INIT (`State.init`), the spec's only return (R205). -/
def State.raise (s : State) (c : Cause) : State :=
  { s with fault := true, fcause := some c, fpc := s.pc, fop := s.op }

/-- An instruction that made its one check: its effect, or fault entry from the state before it (60_exceptions R201, R204). -/
def State.orRaise (s : State) : Except Cause State → Answer
  | .ok t => .next t
  | .error c => .next (s.raise c)

/-- The event of a decode error goes to the event output (60_exceptions R206). -/
def State.emit (s : State) (e : Event) : State := { s with events := s.events ++ [e] }

/-- A decode error: the event, WAIT cleared, PC advanced by 2, nothing else (30_encoding R76). -/
def State.decodeError (s : State) (w : Word) : State :=
  ((s.emit (.decodeError s.pc w)).setWait false).advance

/-! ## The stack controller (40_control R99) -/

/-- Push: `STACK[SP] <- w`, `SP <- SP + 1`; STACK_OVERFLOW at SP = 16 (40_control R92, R99). -/
def State.push (s : State) (w : Word) : Except Cause State :=
  if h : s.sp.val < 16 then
    .ok { s with stack := s.stack.set s.sp.val w h, sp := ⟨s.sp.val + 1, by omega⟩ }
  else .error .stackOverflow

/-- Pop: `SP <- SP - 1`, then `STACK[SP]` is read; the slot is not cleared; STACK_UNDERFLOW at SP = 0 (40_control R90, R99). -/
def State.pop (s : State) : Except Cause (Word × State) :=
  if h : 0 < s.sp.val then
    .ok (s.stack[s.sp.val - 1]'(by omega), { s with sp := ⟨s.sp.val - 1, by omega⟩ })
  else .error .stackUnderflow

/-! ## Memory accesses (20_memory R52, 42_index_memory R146) -/

/-- The range check made before the first access of an instruction: `n` bytes from the untruncated address `a` all lie at or
below 0xFFF; an empty range always does (20_memory R52, 42_index_memory R146, 43_display R161). -/
def rangeOk (a n : Nat) : Bool := decide (n = 0 ∨ a + n ≤ memSize)

/-- `MemRead` of `n` bytes at increasing addresses from `a`, checked first; DATA_RANGE otherwise (20_memory R52). -/
def State.load (s : State) (a n : Nat) : Except Cause (List Byte) :=
  if rangeOk a n then .ok ((List.range n).map (fun k => s.peek (a + k))) else .error .dataRange

/-- `MemWrite` of bytes at increasing addresses from `a`, checked first; DATA_RANGE otherwise (20_memory R52). -/
def State.store (s : State) (a : Nat) (bs : List Byte) : Except Cause State :=
  if rangeOk a bs.length then .ok (s.setMem (Memory.writeList s.cfg.font s.mem a bs)) else .error .dataRange

/-- `FetchWord(pc)`: two bytes, big-endian; FETCH_RANGE when pc > 0xFFE; odd addresses fetch (20_memory R53, R54, R55). -/
def State.fetchWord (s : State) : Except Cause Word :=
  if s.pc.toNat > 0xFFE then .error .fetchRange
  else .ok (wordOfBytes (s.peek s.pc.toNat) (s.peek (s.pc.toNat + 1)))

/-- A word laid out in memory order where the next fetch reads it; unchanged when no fetch can read there (20_memory R53). -/
def State.placeWord (s : State) (w : Word) : State :=
  match s.store s.pc.toNat [(bytesOfWord w).1, (bytesOfWord w).2] with
  | .ok t => t
  | .error _ => s

/-! ## The draws (60_exceptions R223) -/

/-- One more draw taken. -/
def State.countDraw (s : State) : State := { s with draws := s.draws + 1 }

/-- `draw RAND`: a free byte (log 3). -/
def State.drawRand (s : State) : Byte := Config.rand s.draws

/-- The member of the non-empty set `k :: ks` that a number picks; every member is picked by some number. -/
def pickKey (n : Nat) (k : Key) (ks : List Key) : Key :=
  (k :: ks)[n % (ks.length + 1)]'(Nat.mod_lt _ (Nat.succ_pos _))

/-- `draw KEYCHOICE(S)` for the non-empty set `k :: ks`: a free member of it (log 4). -/
def State.drawKey (s : State) (k : Key) (ks : List Key) : Key := pickKey (Config.keyDraw s.draws) k ks

end Sys2Proof.Machine
end

