-- ==== Sys2Proof/Machine/Operands.lean ====
section
/-! DEFINITION. Every operand form of the spec: the shift source (41_alu R119), the effective address I + offset
(42_index_memory R146), the target of BNNN (40_control R93), the glyph address (42_index_memory R142), the decimal digits
(R143), the register range V[0..X] (R144, R145), the sets of keys (44_keypad_timers R183), and the sprite (43_display R162). -/

namespace Sys2Proof.Machine

/-- The source of 8XY6 and 8XYE: V[X] or V[Y] by SHIFT_SRC (41_alu R119, R121). -/
def State.shiftSource (s : State) (x y : Reg) : Byte :=
  match s.cfg.shiftSrc with
  | .vx => s.getV x
  | .vy => s.getV y

/-- The base of every data access: I, untruncated; the offset is added on unbounded integers (42_index_memory R146). -/
def State.base (s : State) : Nat := s.index.toNat

/-- The target of 1NNN and 2NNN and the value of ANNN: NNN zero-extended (30_encoding R73). -/
def addrWord (nnn : Addr12) : Word := nnn.setWidth 16

/-- The target of BNNN: NNN + V[0], always V[0] (40_control R93). -/
def State.offsetTarget (s : State) (nnn : Addr12) : Word := BitVec.ofNat 16 (nnn.toNat + (s.getV 0).toNat)

/-- The new index of FX1E: the sum modulo 65536 (42_index_memory R141). -/
def State.indexPlus (s : State) (b : Byte) : Word := BitVec.ofNat 16 (s.index.toNat + b.toNat)

/-- The glyph address of FX29: five times the whole byte, not masked (42_index_memory R142). -/
def glyphAddress (b : Byte) : Word := BitVec.ofNat 16 (b.toNat * 5)

/-- The three decimal digits of FX33, most significant first (42_index_memory R143). -/
def decimalDigits (b : Byte) : List Byte :=
  [BitVec.ofNat 8 (b.toNat / 100), BitVec.ofNat 8 (b.toNat / 10 % 10), BitVec.ofNat 8 (b.toNat % 10)]

/-- The registers V[0..X], in order (42_index_memory R144). -/
def State.regsUpTo (s : State) (x : Reg) : List Byte := s.v.toList.take (x.val + 1)

/-- The register file with bytes written to V[k], V[k+1], …, in order (42_index_memory R145). -/
def loadRegsFrom (v : Vector Byte 16) : Nat → List Byte → Vector Byte 16
  | _, [] => v
  | k, b :: bs => loadRegsFrom (if h : k < 16 then v.set k b h else v) (k + 1) bs

/-- The register file with the bytes read from memory in V[0..X] and the registers above X kept (42_index_memory R145). -/
def State.loadRegs (s : State) (bytes : List Byte) : Vector Byte 16 := loadRegsFrom s.v 0 bytes

/-- The index after FX55 and FX65: I + X + 1 modulo 65536 when LDST_INC = XPLUS1, else unchanged (42_index_memory R144, R145). -/
def State.indexAfter (s : State) (x : Reg) : Word :=
  match s.cfg.ldstInc with
  | .none => s.index
  | .xplus1 => BitVec.ofNat 16 (s.index.toNat + x.val + 1)

/-- The sixteen keys, lowest first. -/
def allKeys : List Key := [0, 1, 2, 3, 4, 5, 6, 7, 8, 9, 10, 11, 12, 13, 14, 15]

/-- The key a register names, when it names one: V[X] is not masked (44_keypad_timers R180, R181). -/
def keyOf (b : Byte) : Option Key := if h : b.toNat < 16 then some ⟨b.toNat, h⟩ else none

/-- The keys that are down (44_keypad_timers R183, LEVEL). -/
def State.keysDown (s : State) : List Key := allKeys.filter (fun k => s.pressed k)

/-- The keys down now that were up at the previous attempt (44_keypad_timers R183, EDGE). -/
def State.keysNewlyDown (s : State) : List Key := allKeys.filter (fun k => s.pressed k && !s.snapped k)

/-! ## The sprite (43_display R161, R162) -/

/-- The framebuffer with the collision seen so far. -/
abbrev Drawing := Framebuffer × Bool

/-- One set pixel at cell `p`: ignored at 2048 and above; else it collides with a set cell and flips the cell
(43_display R161, R162). -/
def drawCell (d : Drawing) (p : Nat) : Drawing :=
  if h : p < fbSize then (d.1.set p (!d.1[p]) h, d.2 || d.1[p]) else d

/-- The cell of pixel `(col, r)` of a sprite at `(x, y)`: `x + col + (y + r) * 64`, not reduced (43_display R162). -/
def spriteCell (x y r col : Nat) : Nat := x + col + (y + r) * fbWidth

/-- One row of a sprite: columns from `col` up to 7, the pixel of column `col` is bit `7 - col` (43_display R161, R162). -/
def drawColumns (x y r : Nat) (b : Byte) : List Nat → Drawing → Drawing
  | [], d => d
  | col :: cols, d =>
    drawColumns x y r b cols (if b.getLsbD (7 - col) then drawCell d (spriteCell x y r col) else d)

/-- The rows of a sprite from row `r` on (43_display R161). -/
def drawRows (x y : Nat) : Nat → List Byte → Drawing → Drawing
  | _, [], d => d
  | r, b :: bs, d => drawRows x y (r + 1) bs (drawColumns x y r b [0, 1, 2, 3, 4, 5, 6, 7] d)

end Sys2Proof.Machine
end

