-- ==== Sys2Proof/Machine/Alu.lean ====
section
/-! DEFINITION. Register loads and ALU: 6XNN, 7XNN, 8XY0 to 8XYE, CXNN (spec/41_alu.md). Operands are read before any write; the
flag is written first and V[X] second, so for X = F the result stands (spec/00_scope.md R11). -/

namespace Sys2Proof.Machine

/-- V[X] alone is written, then PC + 2 (10_state R23). -/
def State.writeReg (s : State) (x : Reg) (b : Byte) : State := (s.setV x b).advance

/-- VF as a flag, then V[X], then PC + 2 (00_scope R11, 41_alu R123). -/
def State.writeFlagged (s : State) (x : Reg) (flag b : Byte) : State := ((s.setV vf flag).setV x b).advance

/-- 6XNN LD Vx, nn (41_alu R111). -/
def execLdImm (x : Reg) (nn : Byte) (s : State) : Answer := .next (s.writeReg x nn)

/-- 7XNN ADD Vx, nn (41_alu R112): no carry. -/
def execAddImm (x : Reg) (nn : Byte) (s : State) : Answer := .next (s.writeReg x (sumByte (s.getV x) nn))

/-- 8XY0 LD Vx, Vy (41_alu R113). -/
def execLdReg (x y : Reg) (s : State) : Answer := .next (s.writeReg x (s.getV y))

/-- 8XY1 OR (41_alu R114): no flag. -/
def execOrReg (x y : Reg) (s : State) : Answer := .next (s.writeReg x (s.getV x ||| s.getV y))

/-- 8XY2 AND (41_alu R115): no flag. -/
def execAndReg (x y : Reg) (s : State) : Answer := .next (s.writeReg x (s.getV x &&& s.getV y))

/-- 8XY3 XOR (41_alu R116): no flag. -/
def execXorReg (x y : Reg) (s : State) : Answer := .next (s.writeReg x (s.getV x ^^^ s.getV y))

/-- 8XY4 ADD (41_alu R117): VF the carry. -/
def execAddReg (x y : Reg) (s : State) : Answer :=
  .next (s.writeFlagged x (carryFlag (s.getV x) (s.getV y)) (sumByte (s.getV x) (s.getV y)))

/-- 8XY5 SUB (41_alu R118): V[X] - V[Y], VF the no-borrow. -/
def execSubReg (x y : Reg) (s : State) : Answer :=
  .next (s.writeFlagged x (noBorrowFlag (s.getV x) (s.getV y)) (differenceByte (s.getV x) (s.getV y)))

/-- 8XY6 SHR (41_alu R119): VF bit 0 of the source. -/
def execShr (x y : Reg) (s : State) : Answer :=
  .next (s.writeFlagged x (shrFlag (s.shiftSource x y)) (shrByte (s.shiftSource x y)))

/-- 8XY7 SUBN (41_alu R120): V[Y] - V[X], VF the no-borrow. -/
def execSubnReg (x y : Reg) (s : State) : Answer :=
  .next (s.writeFlagged x (noBorrowFlag (s.getV y) (s.getV x)) (differenceByte (s.getV y) (s.getV x)))

/-- 8XYE SHL (41_alu R121): VF bit 7 of the source. -/
def execShl (x y : Reg) (s : State) : Answer :=
  .next (s.writeFlagged x (shlFlag (s.shiftSource x y)) (shlByte (s.shiftSource x y)))

/-- CXNN RND (41_alu R122): a fresh draw masked by NN (log 3). -/
def execRnd (x : Reg) (nn : Byte) (s : State) : Answer := .next ((s.writeReg x (s.drawRand &&& nn)).countDraw)

end Sys2Proof.Machine
end

