-- ==== Sys2Proof/Machine/Control.lean ====
section
/-! DEFINITION. Control transfer: 00EE, 1NNN, 2NNN, BNNN, 3XNN, 4XNN, 5XY0, 9XY0 (spec/40_control.md). While a meaning runs, PC
holds the address of its instruction (10_state R25). -/

namespace Sys2Proof.Machine

/-- 00EE RET (40_control R90): the popped address + 2, or STACK_UNDERFLOW. -/
def execRet (s : State) : Answer :=
  s.orRaise (match s.pop with
    | .ok (w, t) => .ok (t.setPc (w + 2))
    | .error c => .error c)

/-- 1NNN JP (40_control R91). -/
def execJp (nnn : Addr12) (s : State) : Answer := .next (s.setPc (addrWord nnn))

/-- 2NNN CALL (40_control R92): the slot holds the call's own address, or STACK_OVERFLOW. -/
def execCall (nnn : Addr12) (s : State) : Answer :=
  s.orRaise (match s.push s.pc with
    | .ok t => .ok (t.setPc (addrWord nnn))
    | .error c => .error c)

/-- BNNN JP V0 (40_control R93). -/
def execJpV0 (nnn : Addr12) (s : State) : Answer := .next (s.setPc (s.offsetTarget nnn))

/-- 3XNN SE Vx, nn (40_control R94). -/
def execSeImm (x : Reg) (nn : Byte) (s : State) : Answer := .next (s.skipIf (s.getV x == nn))

/-- 4XNN SNE Vx, nn (40_control R95). -/
def execSneImm (x : Reg) (nn : Byte) (s : State) : Answer := .next (s.skipIf (s.getV x != nn))

/-- 5XY0 SE Vx, Vy (40_control R96). -/
def execSeReg (x y : Reg) (s : State) : Answer := .next (s.skipIf (s.getV x == s.getV y))

/-- 9XY0 SNE Vx, Vy (40_control R97). -/
def execSneReg (x y : Reg) (s : State) : Answer := .next (s.skipIf (s.getV x != s.getV y))

end Sys2Proof.Machine
end

