-- ==== Sys2Proof/Machine/Display.lean ====
section
/-! DEFINITION. Display: 00E0, DXYN (spec/43_display.md). Both set DRAW whenever they execute (10_state R32). -/

namespace Sys2Proof.Machine

/-- 00E0 CLS (43_display R160). -/
def execCls (s : State) : Answer := .next ((s.setFb (Vector.replicate fbSize false)).setDraw true).advance

/-- The sprite of DXYN drawn at the coordinates in V[X] and V[Y], both the full byte, read before any write (43_display R161). -/
def State.drawSprite (s : State) (x y : Reg) (bytes : List Byte) : Drawing :=
  drawRows (s.getV x).toNat (s.getV y).toNat 0 bytes (s.fb, false)

/-- DXYN DRW Vx, Vy, n (43_display R161): the framebuffer, then VF the collision, DRAW set; or DATA_RANGE. -/
def execDrw (x y : Reg) (n : Fin 16) (s : State) : Answer :=
  s.orRaise (match s.load s.base n.val with
    | .ok bytes =>
      .ok (((s.setFb (s.drawSprite x y bytes).1).setV vf (flagByte (s.drawSprite x y bytes).2)).setDraw true).advance
    | .error c => .error c)

end Sys2Proof.Machine
end

