-- ==== Sys2Proof/Machine/IndexMem.lean ====
section
/-! DEFINITION. Index register and memory transfer: ANNN, FX1E, FX29, FX33, FX55, FX65 (spec/42_index_memory.md). The whole
address range is checked before the first write (20_memory R52). -/

namespace Sys2Proof.Machine

/-- ANNN LD I, nnn (42_index_memory R140). -/
def execLdI (nnn : Addr12) (s : State) : Answer := .next (s.setIndex (addrWord nnn)).advance

/-- FX1E ADD I, Vx (42_index_memory R141): the flag is written after I, from the stored I. -/
def execAddI (x : Reg) (s : State) : Answer :=
  .next (((s.setIndex (s.indexPlus (s.getV x))).setV vf (rangeFlag (s.indexPlus (s.getV x)))).advance)

/-- FX29 LD F, Vx (42_index_memory R142). -/
def execLdF (x : Reg) (s : State) : Answer := .next (s.setIndex (glyphAddress (s.getV x))).advance

/-- FX33 LD B, Vx (42_index_memory R143): three digits at I, I+1, I+2, or DATA_RANGE. -/
def execLdB (x : Reg) (s : State) : Answer :=
  s.orRaise (match s.store s.base (decimalDigits (s.getV x)) with
    | .ok t => .ok t.advance
    | .error c => .error c)

/-- FX55 LD [I], Vx (42_index_memory R144): V[0..X] to MEM[I..I+X], or DATA_RANGE. -/
def execStRegs (x : Reg) (s : State) : Answer :=
  s.orRaise (match s.store s.base (s.regsUpTo x) with
    | .ok t => .ok (t.setIndex (s.indexAfter x)).advance
    | .error c => .error c)

/-- FX65 LD Vx, [I] (42_index_memory R145): MEM[I..I+X] to V[0..X], or DATA_RANGE. -/
def execLdRegs (x : Reg) (s : State) : Answer :=
  s.orRaise (match s.load s.base (x.val + 1) with
    | .ok bytes => .ok ((s.setVs (s.loadRegs bytes)).setIndex (s.indexAfter x)).advance
    | .error c => .error c)

end Sys2Proof.Machine
end

