-- ==== Sys2Proof/Machine/Keypad.lean ====
section
/-! DEFINITION. Keypad and timer instructions: EX9E, EXA1, FX07, FX0A, FX15, FX18 (spec/44_keypad_timers.md). -/

namespace Sys2Proof.Machine

/-- EX9E SKP Vx (44_keypad_timers R180): skip when the key is down, or KEY_RANGE. -/
def execSkp (x : Reg) (s : State) : Answer :=
  s.orRaise (match keyOf (s.getV x) with
    | some k => .ok (s.skipIf (s.pressed k))
    | none => .error .keyRange)

/-- EXA1 SKNP Vx (44_keypad_timers R181): skip when the key is up, or KEY_RANGE. -/
def execSknp (x : Reg) (s : State) : Answer :=
  s.orRaise (match keyOf (s.getV x) with
    | some k => .ok (s.skipIf (!s.pressed k))
    | none => .error .keyRange)

/-- FX07 LD Vx, DT (44_keypad_timers R182). -/
def execLdVxDt (x : Reg) (s : State) : Answer := .next (s.writeReg x s.dt)

/-- FX0A completes: V[X] gets a key drawn from the qualifying ones, `k :: ks` (44_keypad_timers R183, log 4). -/
def State.takeKey (s : State) (x : Reg) (k : Key) (ks : List Key) : State :=
  (s.writeReg x (BitVec.ofNat 8 (s.drawKey k ks).val)).countDraw

/-- FX0A with FX0A_TRIGGER = LEVEL (44_keypad_timers R183): a key that is down completes it; else PC stays. -/
def State.waitLevel (s : State) (x : Reg) : State :=
  match s.keysDown with
  | [] => s
  | k :: ks => s.takeKey x k ks

/-- FX0A with FX0A_TRIGGER = EDGE (44_keypad_timers R183): the first attempt arms; a later one completes on a key newly down. -/
def State.waitEdge (s : State) (x : Reg) : State :=
  if s.wait then
    match s.keysNewlyDown with
    | [] => s.snapKeys
    | k :: ks => (s.takeKey x k ks).setWait false
  else (s.setWait true).snapKeys

/-- FX0A LD Vx, K (44_keypad_timers R183). -/
def execLdVxK (x : Reg) (s : State) : Answer :=
  match s.cfg.fx0aTrigger with
  | .level => .next (s.waitLevel x)
  | .edge => .next (s.waitEdge x)

/-- FX15 LD DT, Vx (44_keypad_timers R184). -/
def execLdDtVx (x : Reg) (s : State) : Answer := .next (s.setDt (s.getV x)).advance

/-- FX18 LD ST, Vx (44_keypad_timers R185). -/
def execLdStVx (x : Reg) (s : State) : Answer := .next (s.setSt (s.getV x)).advance

end Sys2Proof.Machine
end

