-- ==== Sys2Proof/Machine/Cycle.lean ====
section
/-! DEFINITION. What one step does around an instruction (spec/30_encoding.md R70). Step.lean only calls it. -/

namespace Sys2Proof.Machine

/-- FX0A is the one instruction that does not clear WAIT (30_encoding R70, 10_state R35). -/
def keepsWait : Instr → Bool
  | .ldVxK _ => true
  | _ => false

/-- After execution: WAIT is cleared, unless the instruction is FX0A or it raised a fault (30_encoding R70). -/
def State.afterExec (t : State) (i : Instr) : State :=
  if keepsWait i || t.fault then t else t.setWait false

/-- The answer of an instruction with what the step adds (30_encoding R70). -/
def finishStep (i : Instr) : Answer → Answer
  | .next t => .next (t.afterExec i)
  | .fault f => .fault f
  | .refused r => .refused r

/-- Decode and execute the word just fetched; OP already holds it (30_encoding R70). -/
def State.runWord (s : State) (w : Word) : Answer :=
  match decodeWord w with
  | some i => finishStep i (exec i s)
  | none => .next (s.decodeError w)

/-- `Step()` of 30_encoding R70: not enabled when FAULT = 1 (60_exceptions R203, log 6); the fetch, which may raise FETCH_RANGE with
OP unchanged; OP written; decode; execute. -/
def State.cycle (s : State) : Answer :=
  if s.fault then .fault .halted
  else
    match s.fetchWord with
    | .error c => .next (s.raise c)
    | .ok w => (s.setOp w).runWord w

end Sys2Proof.Machine
end

