-- ==== Sys2Proof/Machine/Step.lean ====
section
/-! DEFINITION. One step of the core (spec/30_encoding.md R70), and a word put where the next step fetches. -/

namespace Sys2Proof.Machine

/-- `stepInstruction`: one fetch and execute (30_encoding R70). -/
def step (s : State) : Host.Outcome State Fault Refusal := s.cycle

/-- The state with the instruction of an opcode-table row stored at PC, where `step` fetches its next instruction: the table's
word in memory order (20_memory R53). Log 11: this stands for the host's LOAD (60_exceptions R224). -/
def State.withFetchWord (s : State) (nbits w : Nat) : State := s.placeWord (tableWord nbits w)

end Sys2Proof.Machine
end

