-- ==== Sys2Proof/Machine/Transactions.lean ====
section
/-! DEFINITION. The transactions the host drives the core with (spec/60_exceptions.md R220 to R226, spec/70_reset_and_hazards.md
R240): STEP, TICK, INIT, LOAD, KEYSET, DRAWACK, READ. Each is atomic; any interleaving is allowed (R222). -/

namespace Sys2Proof.Machine

/-- A timer after one tick: minus 1, floor 0 (60_exceptions R211). -/
def tickByte (b : Byte) : Byte := if b.toNat > 0 then b - 1 else 0

/-- `Tick()`: both timers, in every state, faulted or not (60_exceptions R203, R211). -/
def State.tick (s : State) : State := (s.setDt (tickByte s.dt)).setSt (tickByte s.st)

/-- `Init()`: every field of the spec at its reset value, in every state (70 R240). The model's own fields stay: the parameters are
fixed (10_state R36), the draws stay fresh, and INIT emits no event (log 9). -/
def State.init (s : State) : State := { State.resetWith s.cfg with draws := s.draws, events := s.events }

/-- `Load(bytes)`: the image at 0x200, or `none` for LOAD_ERROR with no state change (60_exceptions R207, R224). -/
def State.loadProgram (s : State) (bytes : List Byte) : Option State :=
  if bytes.length > progMax then none
  else some (s.setMem (Memory.writeList s.cfg.font s.mem progBase bytes))

/-- `KEYSET(k, b)` (60_exceptions R226). -/
def State.keySet (s : State) (k : Key) (b : Bool) : State := s.setKey k b

/-- `DRAWACK` (60_exceptions R225). -/
def State.drawAck (s : State) : State := s.setDraw false

/-- The sound output: the tone plays while ST is not 0 (60_exceptions R213). -/
def State.soundOn (s : State) : Bool := decide (s.st ≠ 0)

/-- A transaction of the host (60_exceptions R220). -/
inductive Transaction where
  | step
  | tick
  | init
  | load (bytes : List Byte)
  | keySet (k : Key) (b : Bool)
  | drawAck
  | read
deriving DecidableEq, Repr

/-- What the core answers the host. -/
inductive Reply where
  | ok
  | notEnabled            -- STEP while FAULT = 1 (60_exceptions R203)
  | loadError             -- LOAD of more than 3584 bytes (60_exceptions R207)
  | values (s : State)    -- READ: every field can be read (60_exceptions R216, R220)
deriving DecidableEq, Repr

/-- STEP as a transaction: a step that is not enabled changes nothing (60_exceptions R203). -/
def State.stepTransaction (s : State) : State × Reply :=
  match step s with
  | .next t => (t, .ok)
  | .fault _ => (s, .notEnabled)
  | .refused _ => (s, .notEnabled)

/-- LOAD as a transaction (60_exceptions R224). -/
def State.loadTransaction (s : State) (bytes : List Byte) : State × Reply :=
  match s.loadProgram bytes with
  | some t => (t, .ok)
  | none => (s, .loadError)

/-- One transaction: the next state and the answer to the host (60_exceptions R220). -/
def State.transact (s : State) : Transaction → State × Reply
  | .step => s.stepTransaction
  | .tick => (s.tick, .ok)
  | .init => (s.init, .ok)
  | .load bytes => s.loadTransaction bytes
  | .keySet k b => (s.keySet k b, .ok)
  | .drawAck => (s.drawAck, .ok)
  | .read => (s, .values s)

/-- The state after transactions in the order the host chose (60_exceptions R222). -/
def State.transactAll : State → List Transaction → State
  | s, [] => s
  | s, t :: ts => State.transactAll (s.transact t).1 ts

end Sys2Proof.Machine
end

