-- ==== Sys2Proof/Safety.lean ====
section
/-! DEFINITION. What claims call a good state and a good end: the invariant of the machine, Settled and Faulted
(spec/60_exceptions.md R227). -/

namespace Sys2Proof.Machine

/-- The fault record is coherent: FCAUSE is 0 exactly when FAULT is 0, and FPC and FOP are 0 then (10_state R34, R39). -/
def State.FaultRecordOk (s : State) : Prop :=
  (s.fault = false ↔ s.fcause = none) ∧ (s.fault = false → s.fpc = 0 ∧ s.fop = 0)

/-- When FX0A_TRIGGER = LEVEL, WAIT and KSNAP stay 0 (10_state R35). -/
def State.WaitUnused (s : State) : Prop :=
  s.cfg.fx0aTrigger = .level → s.wait = false ∧ ∀ k : Key, s.snapped k = false

/-- Every stack slot holds 0 or the address of a call that was fetched, at most 0xFFE (40_control R90). -/
def State.StackOk (s : State) : Prop := ∀ k : Fin 16, (s.slot k).toNat ≤ 0xFFE

/-- PC is at most 0x10FE, the highest target of BNNN (10_state R26, 40_control R93). -/
def State.PcOk (s : State) : Prop := s.pc.toNat ≤ 0x10FE

/-- The invariant of the machine. -/
def State.Inv (s : State) : Prop :=
  Memory.wf s.cfg.font s.mem = true ∧ s.FaultRecordOk ∧ s.WaitUnused ∧ s.StackOk ∧ s.PcOk

/-- Faulted: a bad end (60_exceptions R227). -/
def State.Faulted (s : State) : Prop := s.fault = true

/-- Settled: the instruction at PC is 1NNN with NNN = PC, and FAULT = 0 (60_exceptions R227). -/
def State.Settled (s : State) : Prop :=
  s.fault = false ∧ ∃ w nnn, s.fetchWord = .ok w ∧ decodeWord w = some (.jp nnn) ∧ addrWord nnn = s.pc

/-! ## The terms of the statements: frames, completions, traps -/

/-- Every byte of memory reads as before. -/
def SameMemory (s t : State) : Prop := ∀ a, t.peek a = s.peek a

/-- Every byte outside the `n` bytes from `a` reads as before. -/
def SameMemoryOutside (s t : State) (a n : Nat) : Prop := ∀ b, b < a ∨ a + n ≤ b → t.peek b = s.peek b

/-- Every general register but those listed is unchanged. -/
def SameRegsBut (s t : State) (rs : List Reg) : Prop := ∀ r, r ∉ rs → t.getV r = s.getV r

/-- The instruction completes: V[X] gets the byte, PC + 2, and nothing else of the state changes. -/
def WritesOneReg (i : Instr) (s : State) (x : Reg) (b : Byte) : Prop :=
  ∃ t, exec i s = .next t ∧ t.getV x = b ∧ SameRegsBut s t [x] ∧ t.pc = s.pc + 2 ∧ SameMemory s t ∧
    t = { s with v := t.v, pc := t.pc }

/-- The instruction completes: V[X] gets the result, VF the flag unless X = F, PC + 2, and nothing else changes. -/
def WritesFlagAndReg (i : Instr) (s : State) (x : Reg) (flag result : Nat) : Prop :=
  ∃ t, exec i s = .next t ∧ (t.getV x).toNat = result ∧ (x ≠ vf → (t.getV vf).toNat = flag) ∧
    SameRegsBut s t [x, vf] ∧ t.pc = s.pc + 2 ∧ SameMemory s t ∧ t = { s with v := t.v, pc := t.pc }

/-- The instruction completes: PC gets the target and nothing else changes. -/
def OnlyJumps (i : Instr) (s : State) (target : Nat) : Prop :=
  ∃ t, exec i s = .next t ∧ t.pc.toNat = target ∧ SameRegsBut s t [] ∧ SameMemory s t ∧ t = { s with pc := t.pc }

/-- The state after fault entry (60_exceptions R201). -/
def faultEntry (s : State) (c : Cause) : State :=
  { s with fault := true, fcause := some c, fpc := s.pc, fop := s.op }

/-- The instruction takes the fault and does nothing else. -/
def TakesFault (i : Instr) (s : State) (c : Cause) : Prop := exec i s = .next (faultEntry s c)

/-- Cell `p` is a set pixel of the sprite of `n` rows at `(x, y)`, read from MEM[I..] (43_display R162). -/
def SpritePixel (s : State) (x y n p : Nat) : Prop :=
  ∃ r col, r < n ∧ col < 8 ∧ p = x + col + (y + r) * 64 ∧ (s.peek (s.base + r)).getLsbD (7 - col) = true

/-- The sprite of DXYN has its set pixel at cell `p` (43_display R161: the coordinates are V[X] and V[Y]). -/
def DrawsPixel (s : State) (x y : Reg) (n : Fin 16) (p : Fin fbSize) : Prop :=
  SpritePixel s (s.getV x).toNat (s.getV y).toNat n.val p.val

/-- The general registers an instruction may write (10_state R23). -/
def writesReg : Instr → Reg → Bool
  | .ldImm x _, r | .addImm x _, r | .ldReg x _, r | .orReg x _, r | .andReg x _, r | .xorReg x _, r | .rnd x _, r => r == x
  | .ldVxDt x, r | .ldVxK x, r => r == x
  | .addReg x _, r | .subReg x _, r | .shr x _, r | .subnReg x _, r | .shl x _, r => r == x || r == vf
  | .drw _ _ _, r | .addI _, r => r == vf
  | .ldRegs x, r => decide (r.val ≤ x.val)
  | .cls, _ | .ret, _ | .jp _, _ | .call _, _ | .seImm _ _, _ | .sneImm _ _, _ | .seReg _ _, _ | .sneReg _ _, _ => false
  | .ldI _, _ | .jpV0 _, _ | .skp _, _ | .sknp _, _ | .ldDtVx _, _ | .ldStVx _, _ | .ldF _, _ | .ldB _, _ | .stRegs _, _ => false

/-- The one fault cause of each instruction that has one (60_exceptions R204). -/
def causeOf : Instr → Option Cause
  | .call _ => some .stackOverflow
  | .ret => some .stackUnderflow
  | .drw _ _ _ | .ldB _ | .stRegs _ | .ldRegs _ => some .dataRange
  | .skp _ | .sknp _ => some .keyRange
  | .cls | .jp _ | .seImm _ _ | .sneImm _ _ | .seReg _ _ | .ldImm _ _ | .addImm _ _ | .ldReg _ _ | .orReg _ _ => none
  | .andReg _ _ | .xorReg _ _ | .addReg _ _ | .subReg _ _ | .shr _ _ | .subnReg _ _ | .shl _ _ | .sneReg _ _ => none
  | .ldI _ | .jpV0 _ | .rnd _ _ | .ldVxDt _ | .ldVxK _ | .ldDtVx _ | .ldStVx _ | .addI _ | .ldF _ => none

/-- Every field of the spec's state holds the value of 10_state R39. -/
def HoldsResetValues (s : State) : Prop :=
  (∀ a, (h : a < 80) → s.peek a = s.cfg.font[a]) ∧ (∀ a, 80 ≤ a → a < memSize → s.peek a = 0) ∧
  (∀ r, s.getV r = 0) ∧ (∀ k, s.slot k = 0) ∧ s.sp = 0 ∧ s.pc = 0x200 ∧ s.index = 0 ∧ s.dt = 0 ∧ s.st = 0 ∧
  (∀ p, s.cell p = false) ∧ (∀ k, s.pressed k = false) ∧ s.op = 0 ∧ s.draw = false ∧
  s.fault = false ∧ s.fcause = none ∧ s.fpc = 0 ∧ s.fop = 0 ∧ s.wait = false ∧ (∀ k, s.snapped k = false)

end Sys2Proof.Machine
end

