-- ==== Sys2Proof/Certificates/Slice0/Obligations.lean ====
section
/-! DEFINITION. The statements for the provers, each from numbered rules of the spec. Frames are said with the terms of
Safety.lean: an equation `t = { s with … }` lists every field that may change. -/

namespace Sys2Proof.Machine

/-- The instruction's word: match under mask as its rule gives them, and it decodes to the instruction (30_encoding R72). -/
def EncodedAs (i : Instr) (value mask : Word) : Prop := encode i &&& mask = value ∧ decodeWord (encode i) = some i

end Sys2Proof.Machine

open Sys2Proof Sys2Proof.Machine

/-- O1. 30_encoding R71, R72 and R77 on a few words of 95_test_vectors. -/
def Obligations.SampleWordsDecode : Prop :=
  decodeWord 0x00E0 = some .cls ∧ decodeWord 0x1ABC = some (.jp 0xABC) ∧ decodeWord 0x6A42 = some (.ldImm 10 0x42) ∧
  decodeWord 0x8124 = some (.addReg 1 2) ∧ decodeWord 0xD015 = some (.drw 0 1 5) ∧ decodeWord 0xF30A = some (.ldVxK 3) ∧
  decodeWord 0xF255 = some (.stRegs 2) ∧ decodeWord 0x5121 = none ∧ decodeWord 0x0123 = none ∧ decodeWord 0xF075 = none

/-- O2. Decode and encode agree on all 34 instructions, through the byte order of 20_memory R53 (30_encoding R71, R72, R75). -/
def Obligations.DecodeOfEncode : Prop :=
  ∀ (i : Instr) (rest : List Byte),
    decodeBytes ((bytesOfWord (encode i)).1 :: (bytesOfWord (encode i)).2 :: rest) = .ok (i, rest)

/-- O3. Every bit a row leaves open is an operand field (30_encoding R71, R78). -/
def Obligations.EncodeOfDecode : Prop :=
  ∀ (w : Word) (i : Instr), decodeWord w = some i → encode i = w

/-- O4. 30_encoding R72: the decoder against the table's masks and matches. -/
def Obligations.DecodeMatchesOpcodeTable : Prop :=
  opcodeTable.length = 34 ∧
  ∀ w : Word,
    (∀ i, decodeWord w = some i → i.row ∈ opcodeTable ∧ w &&& i.row.mask = i.row.value) ∧
    (decodeWord w = none → ∀ r ∈ opcodeTable, w &&& r.mask ≠ r.value)

/-- O5. 30_encoding R78. -/
def Obligations.OpcodeRowsDisjoint : Prop :=
  (∀ (w : Word) (r q : OpcodeRow), r ∈ opcodeTable → q ∈ opcodeTable → r.admits w = true → q.admits w = true → r = q) ∧
  (∀ (w u : Word) (i : Instr), decodeWord w = some i → u &&& i.row.mask = i.row.value →
    ∃ j, decodeWord u = some j ∧ j.row = i.row)

/-- O6. The table of 30_encoding R77, less its counts. -/
def Obligations.DecodeErrorWordsByFamily : Prop :=
  ∀ w : Word, decodeWord w = none ↔
    (fieldF w = 0x0 ∧ w ≠ 0x00E0 ∧ w ≠ 0x00EE) ∨
    (fieldF w = 0x5 ∧ fieldN w ≠ 0) ∨
    (fieldF w = 0x8 ∧ fieldN w ∈ [8, 9, 0xA, 0xB, 0xC, 0xD, 0xF]) ∨
    (fieldF w = 0x9 ∧ fieldN w ≠ 0) ∨
    (fieldF w = 0xE ∧ fieldNN w ∉ [0x9E, 0xA1]) ∨
    (fieldF w = 0xF ∧ fieldNN w ∉ [0x07, 0x0A, 0x15, 0x18, 0x1E, 0x29, 0x33, 0x55, 0x65])

/-- O7. 30_encoding R70 with the fetch of 20_memory R54 and the decode error of R76. That a step which is not enabled answers Fault.halted is the model's choice (log 6). -/
def Obligations.StepFetchesDecodesExecutes : Prop :=
  ∀ s : State,
    (s.fault = true → step s = .fault .halted) ∧
    (s.fault = false → 0xFFE < s.pc.toNat → step s = .next (faultEntry s .fetchRange)) ∧
    (s.fault = false → s.pc.toNat ≤ 0xFFE → ∀ w : Word,
      w.toNat = (s.peek s.pc.toNat).toNat * 256 + (s.peek (s.pc.toNat + 1)).toNat →
      (decodeWord w = none → step s = .next
        { s with op := w, events := s.events ++ [.decodeError s.pc w], wait := false, pc := s.pc + 2 }) ∧
      (∀ i t, decodeWord w = some i → exec i { s with op := w } = .next t →
        (((∃ x, i = .ldVxK x) ∨ t.fault = true) → step s = .next t) ∧
        ((∀ x, i ≠ .ldVxK x) → t.fault = false → step s = .next { t with wait := false })))

/-- O8. The fetch reads memory itself (20_memory R53, R65; 30_encoding R70). -/
def Obligations.PlacedInstructionIsRunByTheNextStep : Prop :=
  ∀ (s : State) (i : Instr), s.fault = false → s.pc.toNat ≤ 0xFFE →
    step (s.placeWord (encode i)) = finishStep i (exec i { s.placeWord (encode i) with op := encode i })

/-- O9. 20_memory R53 and R54. -/
def Obligations.FetchIsBigEndianAndUnaligned : Prop :=
  ∀ s : State,
    (0xFFE < s.pc.toNat → s.fetchWord = .error .fetchRange) ∧
    (s.pc.toNat ≤ 0xFFE → ∃ w, s.fetchWord = .ok w ∧
      w.toNat = (s.peek s.pc.toNat).toNat * 256 + (s.peek (s.pc.toNat + 1)).toNat)

/-- O10. 60_exceptions R201. -/
def Obligations.FaultsArePrecise : Prop :=
  ∀ s t : State, step s = .next t → t.fault = true →
    (0xFFE < s.pc.toNat ∧ t = faultEntry s .fetchRange) ∨
    (∃ w c, s.fetchWord = .ok w ∧ t = faultEntry { s with op := w } c)

/-- O11. The third point of 60_exceptions R204 (causeOf is its list). -/
def Obligations.EachInstructionHasItsOneFaultCause : Prop :=
  ∀ (i : Instr) (s t : State), s.fault = false → exec i s = .next t → t.fault = true →
    ∃ c, causeOf i = some c ∧ t.fcause = some c

/-- O12. 60_exceptions R203, with what R205, R211, R220, R224, R225 and R226 say of each transaction. That a step which is not enabled answers Fault.halted, and the replies notEnabled, ok (of a transaction other than LOAD) and values, are the model's choice (logs 6 and 16). -/
def Obligations.FaultedStateLastsUntilInit : Prop :=
  ∀ s : State, s.fault = true →
    step s = .fault .halted ∧ s.transact .step = (s, .notEnabled) ∧
    (∃ t, s.transact .tick = (t, .ok) ∧ t.dt.toNat = s.dt.toNat - 1 ∧ t.st.toNat = s.st.toNat - 1 ∧
      t = { s with dt := t.dt, st := t.st }) ∧
    (∀ k b, ∃ t, s.transact (.keySet k b) = (t, .ok) ∧ (∀ j, t.pressed j = if j = k then b else s.pressed j) ∧
      t = { s with key := t.key }) ∧
    s.transact .drawAck = ({ s with draw := false }, .ok) ∧
    (∀ bytes, bytes.length ≤ 3584 → ∃ t, s.transact (.load bytes) = (t, .ok) ∧
      (∀ k, (h : k < bytes.length) → t.peek (0x200 + k) = bytes[k]) ∧ SameMemoryOutside s t 0x200 bytes.length ∧
      t = { s with mem := t.mem }) ∧
    (∀ bytes, 3584 < bytes.length → s.transact (.load bytes) = (s, .loadError)) ∧
    (∀ tr, tr ≠ .init → (s.transact tr).1.fault = true ∧ (s.transact tr).1.fcause = s.fcause ∧
      (s.transact tr).1.fpc = s.fpc ∧ (s.transact tr).1.fop = s.fop) ∧
    s.transact .read = (s, .values s) ∧
    (s.transact .init).1.fault = false ∧ (s.transact .init).1.fcause = none ∧ (s.transact .init).1.fpc = 0 ∧
    (s.transact .init).1.fop = 0

/-- O13. 20_memory R57, 60_exceptions R201 and R209: every instruction is legal at every moment and runs to completion. -/
def Obligations.EveryInstructionAnswersANextState : Prop :=
  ∀ (i : Instr) (s : State), ∃ t, exec i s = .next t

/-- O14. 10_state R39 against the invariant of Safety.lean. -/
def Obligations.ResetSatisfiesTheInvariant : Prop :=
  (∀ cfg : Params, (State.resetWith cfg).Inv) ∧ State.reset.Inv

/-- O15. The invariant of Safety.lean: memory canonical; FCAUSE 0 exactly when FAULT = 0 (10_state R34); WAIT and KSNAP 0 in LEVEL mode (R35); a saved address is a fetch origin, at most 0xFFE (40_control R90); PC at most 0x10FE (10_state R26). -/
def Obligations.StepKeepsTheInvariant : Prop :=
  ∀ s t : State, s.Inv → step s = .next t → t.Inv

/-- O16. 60_exceptions R222: the host chooses the order of transactions. -/
def Obligations.EveryInterleavingKeepsTheInvariant : Prop :=
  ∀ (s : State) (ts : List Transaction), s.Inv → (s.transactAll ts).Inv

/-- O17. The parameters are fixed for a given core (10_state R36). That they are held in a field is the model's choice (log 1). -/
def Obligations.ParametersNeverChange : Prop :=
  ∀ (s : State) (ts : List Transaction), (s.transactAll ts).cfg = s.cfg

/-- O18. The column 'written by' of 10_state R20, with 10_state R23 for V (writesReg is its list) and R34 for the fault record (causeOf lists who has a cause). PC is written by every instruction (R25), so no clause stands for it. The clauses on cfg, draws and events are about the model's own fields and its own choice (logs 1, 3 and 5). -/
def Obligations.OnlyNamedInstructionsWriteEachField : Prop :=
  ∀ (i : Instr) (s t : State), exec i s = .next t →
    (t.key = s.key ∧ t.op = s.op ∧ t.cfg = s.cfg ∧ t.events = s.events) ∧
    (∀ r, t.getV r ≠ s.getV r → writesReg i r = true) ∧
    ((t.fault ≠ s.fault ∨ t.fcause ≠ s.fcause ∨ t.fpc ≠ s.fpc ∨ t.fop ≠ s.fop) →
      ∃ c, causeOf i = some c ∧ t = faultEntry s c) ∧
    (t.mem ≠ s.mem → ∃ x, i = .ldB x ∨ i = .stRegs x) ∧
    (t.index ≠ s.index → (∃ n, i = .ldI n) ∨ (∃ x, i = .addI x ∨ i = .ldF x) ∨
      (s.cfg.ldstInc = .xplus1 ∧ ∃ x, i = .stRegs x ∨ i = .ldRegs x)) ∧
    (t.stack ≠ s.stack → ∃ n, i = .call n) ∧
    (t.sp ≠ s.sp → i = .ret ∨ ∃ n, i = .call n) ∧
    (t.dt ≠ s.dt → ∃ x, i = .ldDtVx x) ∧
    (t.st ≠ s.st → ∃ x, i = .ldStVx x) ∧
    ((t.fb ≠ s.fb ∨ t.draw ≠ s.draw) → i = .cls ∨ ∃ x y n, i = .drw x y n) ∧
    ((t.wait ≠ s.wait ∨ t.ksnap ≠ s.ksnap) → s.cfg.fx0aTrigger = .edge ∧ ∃ x, i = .ldVxK x) ∧
    (t.draws ≠ s.draws → (∃ x nn, i = .rnd x nn) ∨ ∃ x, i = .ldVxK x)

/-- O19. 10_state R23 and 41_alu R123 (writesReg is their list). -/
def Obligations.OnlyNamedRegistersAreWritten : Prop :=
  ∀ (i : Instr) (s t : State) (r : Reg), exec i s = .next t → t.getV r ≠ s.getV r → writesReg i r = true

/-- O20. 60_exceptions R206. The event output is the model's own field (log 5). -/
def Obligations.EventOutputIsNeverRead : Prop :=
  ∀ (i : Instr) (s t : State) (es : List Event), exec i s = .next t →
    exec i { s with events := es } = .next { t with events := es }

/-- O21. 10_state R29 and 60_exceptions R212. -/
def Obligations.SoundTimerIsNeverRead : Prop :=
  ∀ (i : Instr) (s t : State) (b : Byte), exec i s = .next t →
    ((∃ x, i = .ldStVx x) → exec i { s with st := b } = .next t) ∧
    ((∀ x, i ≠ .ldStVx x) → exec i { s with st := b } = .next { t with st := b })

/-- O22. 41_alu R111, R113 and 44_keypad_timers R182. -/
def Obligations.RegisterLoads : Prop :=
  ∀ (s : State) (x y : Reg) (nn : Byte),
    (WritesOneReg (.ldImm x nn) s x nn ∧ EncodedAs (.ldImm x nn) 0x6000 0xF000) ∧
    (WritesOneReg (.ldReg x y) s x (s.getV y) ∧ EncodedAs (.ldReg x y) 0x8000 0xF00F) ∧
    (WritesOneReg (.ldVxDt x) s x s.dt ∧ EncodedAs (.ldVxDt x) 0xF007 0xF0FF)

/-- O23. 41_alu R112. -/
def Obligations.AddImmediateWrapsWithoutCarry : Prop :=
  ∀ (s : State) (x : Reg) (nn : Byte), EncodedAs (.addImm x nn) 0x7000 0xF000 ∧
    ∃ r : Byte, r.toNat = ((s.getV x).toNat + nn.toNat) % 256 ∧ WritesOneReg (.addImm x nn) s x r

/-- O24. 41_alu R114, R115, R116. -/
def Obligations.BitwiseOperations : Prop :=
  ∀ (s : State) (x y : Reg),
    (∃ r : Byte, (∀ k, r.getLsbD k = ((s.getV x).getLsbD k || (s.getV y).getLsbD k)) ∧
      WritesOneReg (.orReg x y) s x r ∧ EncodedAs (.orReg x y) 0x8001 0xF00F) ∧
    (∃ r : Byte, (∀ k, r.getLsbD k = ((s.getV x).getLsbD k && (s.getV y).getLsbD k)) ∧
      WritesOneReg (.andReg x y) s x r ∧ EncodedAs (.andReg x y) 0x8002 0xF00F) ∧
    (∃ r : Byte, (∀ k, r.getLsbD k = ((s.getV x).getLsbD k ^^ (s.getV y).getLsbD k)) ∧
      WritesOneReg (.xorReg x y) s x r ∧ EncodedAs (.xorReg x y) 0x8003 0xF00F)

/-- O25. 41_alu R117. -/
def Obligations.AddSetsCarryBeforeResult : Prop :=
  ∀ (s : State) (x y : Reg), EncodedAs (.addReg x y) 0x8004 0xF00F ∧
    WritesFlagAndReg (.addReg x y) s x
      (if (s.getV x).toNat + (s.getV y).toNat > 255 then 1 else 0)
      (((s.getV x).toNat + (s.getV y).toNat) % 256)

/-- O26. 41_alu R118 and R120. -/
def Obligations.SubtractionsSetNoBorrowBeforeResult : Prop :=
  ∀ (s : State) (x y : Reg),
    (EncodedAs (.subReg x y) 0x8005 0xF00F ∧
      WritesFlagAndReg (.subReg x y) s x (if (s.getV y).toNat > (s.getV x).toNat then 0 else 1)
        (((s.getV x).toNat + 256 - (s.getV y).toNat) % 256)) ∧
    (EncodedAs (.subnReg x y) 0x8007 0xF00F ∧
      WritesFlagAndReg (.subnReg x y) s x (if (s.getV x).toNat > (s.getV y).toNat then 0 else 1)
        (((s.getV y).toNat + 256 - (s.getV x).toNat) % 256))

/-- O27. 41_alu R119 and R121, for both values of SHIFT_SRC. -/
def Obligations.ShiftsByOne : Prop :=
  ∀ (s : State) (x y : Reg) (b : Byte),
    ((s.cfg.shiftSrc = .vx ∧ b = s.getV x) ∨ (s.cfg.shiftSrc = .vy ∧ b = s.getV y)) →
    (EncodedAs (.shr x y) 0x8006 0xF00F ∧ WritesFlagAndReg (.shr x y) s x (b.toNat % 2) (b.toNat / 2)) ∧
    (EncodedAs (.shl x y) 0x800E 0xF00F ∧ WritesFlagAndReg (.shl x y) s x (b.toNat / 128) (b.toNat * 2 % 256))

/-- O28. 41_alu R122 and 60_exceptions R223. That the draw is the free value Config.rand, of which nothing is known, applied to a count that each draw advances, is the model's choice (log 3). -/
def Obligations.RandomByteIsMaskedByTheImmediate : Prop :=
  ∀ (s : State) (x : Reg) (nn : Byte), EncodedAs (.rnd x nn) 0xC000 0xF000 ∧
    ∃ t, exec (.rnd x nn) s = .next t ∧ t.getV x = Config.rand s.draws &&& nn ∧
      (∀ k, nn.getLsbD k = false → (t.getV x).getLsbD k = false) ∧ t.draws = s.draws + 1 ∧
      SameRegsBut s t [x] ∧ t.pc = s.pc + 2 ∧ SameMemory s t ∧ t = { s with v := t.v, pc := t.pc, draws := t.draws }

/-- O29. 40_control R91 and R93. -/
def Obligations.JumpsWriteOnlyPc : Prop :=
  ∀ (s : State) (nnn : Addr12),
    (OnlyJumps (.jp nnn) s nnn.toNat ∧ EncodedAs (.jp nnn) 0x1000 0xF000) ∧
    (OnlyJumps (.jpV0 nnn) s (nnn.toNat + (s.getV 0).toNat) ∧ EncodedAs (.jpV0 nnn) 0xB000 0xF000)

/-- O30. 40_control R92. -/
def Obligations.CallPushesItsOwnAddress : Prop :=
  ∀ (s : State) (nnn : Addr12), EncodedAs (.call nnn) 0x2000 0xF000 ∧
    (s.sp.val < 16 → ∃ t, exec (.call nnn) s = .next t ∧ t.sp.val = s.sp.val + 1 ∧ t.pc.toNat = nnn.toNat ∧
      (∀ k : Fin 16, t.slot k = if k.val = s.sp.val then s.pc else s.slot k) ∧
      SameRegsBut s t [] ∧ SameMemory s t ∧ t = { s with stack := t.stack, sp := t.sp, pc := t.pc }) ∧
    (s.sp = 16 → TakesFault (.call nnn) s .stackOverflow)

/-- O31. 40_control R90. -/
def Obligations.ReturnPopsAndAddsTwo : Prop :=
  ∀ s : State, EncodedAs .ret 0x00EE 0xFFFF ∧
    (∀ k : Fin 16, s.sp.val = k.val + 1 → ∃ t, exec .ret s = .next t ∧ t.sp.val = k.val ∧
      t.pc.toNat = ((s.slot k).toNat + 2) % 65536 ∧ (∀ j, t.slot j = s.slot j) ∧
      SameRegsBut s t [] ∧ SameMemory s t ∧ t = { s with sp := t.sp, pc := t.pc }) ∧
    (s.sp = 0 → TakesFault .ret s .stackUnderflow)

/-- O32. The testable property of 40_control R90, from R92 and R99. -/
def Obligations.ReturnAfterCallResumesAfterTheCall : Prop :=
  ∀ (s t u : State) (nnn : Addr12), s.sp.val < 16 → exec (.call nnn) s = .next t → u.stack = t.stack → u.sp = t.sp →
    ∃ r, exec .ret u = .next r ∧ r.pc = s.pc + 2 ∧ r.sp = s.sp

/-- O33. 40_control R94, R95, R96, R97. -/
def Obligations.SkipsAddFourOrTwo : Prop :=
  ∀ (s : State) (x y : Reg) (nn : Byte),
    (OnlyJumps (.seImm x nn) s ((s.pc.toNat + if s.getV x = nn then 4 else 2) % 65536) ∧
      EncodedAs (.seImm x nn) 0x3000 0xF000) ∧
    (OnlyJumps (.sneImm x nn) s ((s.pc.toNat + if s.getV x = nn then 2 else 4) % 65536) ∧
      EncodedAs (.sneImm x nn) 0x4000 0xF000) ∧
    (OnlyJumps (.seReg x y) s ((s.pc.toNat + if s.getV x = s.getV y then 4 else 2) % 65536) ∧
      EncodedAs (.seReg x y) 0x5000 0xF00F) ∧
    (OnlyJumps (.sneReg x y) s ((s.pc.toNat + if s.getV x = s.getV y then 2 else 4) % 65536) ∧
      EncodedAs (.sneReg x y) 0x9000 0xF00F)

/-- O34. 44_keypad_timers R180 and R181. -/
def Obligations.KeySkipsTestTheNamedKey : Prop :=
  ∀ (s : State) (x : Reg), EncodedAs (.skp x) 0xE09E 0xF0FF ∧ EncodedAs (.sknp x) 0xE0A1 0xF0FF ∧
    (∀ k : Key, (s.getV x).toNat = k.val →
      OnlyJumps (.skp x) s ((s.pc.toNat + if s.pressed k = true then 4 else 2) % 65536) ∧
      OnlyJumps (.sknp x) s ((s.pc.toNat + if s.pressed k = true then 2 else 4) % 65536)) ∧
    (0xF < (s.getV x).toNat → TakesFault (.skp x) s .keyRange ∧ TakesFault (.sknp x) s .keyRange)

/-- O35. 42_index_memory R140 and R142. -/
def Obligations.IndexLoads : Prop :=
  ∀ (s : State) (nnn : Addr12) (x : Reg),
    (EncodedAs (.ldI nnn) 0xA000 0xF000 ∧ ∃ t, exec (.ldI nnn) s = .next t ∧ t.index.toNat = nnn.toNat ∧
      t.pc = s.pc + 2 ∧ SameRegsBut s t [] ∧ SameMemory s t ∧ t = { s with index := t.index, pc := t.pc }) ∧
    (EncodedAs (.ldF x) 0xF029 0xF0FF ∧ ∃ t, exec (.ldF x) s = .next t ∧ t.index.toNat = 5 * (s.getV x).toNat ∧
      t.pc = s.pc + 2 ∧ SameRegsBut s t [] ∧ SameMemory s t ∧ t = { s with index := t.index, pc := t.pc })

/-- O36. 42_index_memory R141. -/
def Obligations.AddToIndexSetsTheRangeFlag : Prop :=
  ∀ (s : State) (x : Reg), EncodedAs (.addI x) 0xF01E 0xF0FF ∧
    ∃ t, exec (.addI x) s = .next t ∧ t.index.toNat = (s.index.toNat + (s.getV x).toNat) % 65536 ∧
      (t.getV vf).toNat = (if t.index.toNat > 0xFFF then 1 else 0) ∧ SameRegsBut s t [vf] ∧ t.pc = s.pc + 2 ∧
      SameMemory s t ∧ t = { s with index := t.index, v := t.v, pc := t.pc }

/-- O37. 42_index_memory R143. s.base is I, the address the meaning stores to. -/
def Obligations.DecimalDigitsAreStored : Prop :=
  ∀ (s : State) (x : Reg), EncodedAs (.ldB x) 0xF033 0xF0FF ∧
    (s.base + 2 ≤ 0xFFF → ∃ t, exec (.ldB x) s = .next t ∧
      (t.peek s.base).toNat = (s.getV x).toNat / 100 ∧ (t.peek (s.base + 1)).toNat = (s.getV x).toNat / 10 % 10 ∧
      (t.peek (s.base + 2)).toNat = (s.getV x).toNat % 10 ∧ SameMemoryOutside s t s.base 3 ∧
      SameRegsBut s t [] ∧ t.pc = s.pc + 2 ∧ t = { s with mem := t.mem, pc := t.pc }) ∧
    (0xFFF < s.base + 2 → TakesFault (.ldB x) s .dataRange)

/-- O38. 42_index_memory R144, for both values of LDST_INC. s.base is I, the address the meaning stores to. -/
def Obligations.RegistersAreStoredInOrder : Prop :=
  ∀ (s : State) (x : Reg), EncodedAs (.stRegs x) 0xF055 0xF0FF ∧
    (s.base + x.val ≤ 0xFFF → ∃ t, exec (.stRegs x) s = .next t ∧
      (∀ k : Reg, k ≤ x → t.peek (s.base + k.val) = s.getV k) ∧ SameMemoryOutside s t s.base (x.val + 1) ∧
      (s.cfg.ldstInc = .none → t.index = s.index) ∧
      (s.cfg.ldstInc = .xplus1 → t.index.toNat = (s.index.toNat + x.val + 1) % 65536) ∧
      SameRegsBut s t [] ∧ t.pc = s.pc + 2 ∧ t = { s with mem := t.mem, index := t.index, pc := t.pc }) ∧
    (0xFFF < s.base + x.val → TakesFault (.stRegs x) s .dataRange)

/-- O39. 42_index_memory R145, for both values of LDST_INC. -/
def Obligations.RegistersAreLoadedInOrder : Prop :=
  ∀ (s : State) (x : Reg), EncodedAs (.ldRegs x) 0xF065 0xF0FF ∧
    (s.base + x.val ≤ 0xFFF → ∃ t, exec (.ldRegs x) s = .next t ∧
      (∀ k : Reg, t.getV k = if k ≤ x then s.peek (s.base + k.val) else s.getV k) ∧
      (s.cfg.ldstInc = .none → t.index = s.index) ∧
      (s.cfg.ldstInc = .xplus1 → t.index.toNat = (s.index.toNat + x.val + 1) % 65536) ∧
      SameMemory s t ∧ t.pc = s.pc + 2 ∧ t = { s with v := t.v, index := t.index, pc := t.pc }) ∧
    (0xFFF < s.base + x.val → TakesFault (.ldRegs x) s .dataRange)

/-- O40. The testable property of 42_index_memory R145: the same X and index, so it holds for both values of LDST_INC. -/
def Obligations.StoreThenLoadRestoresTheRegisters : Prop :=
  ∀ (s t u : State) (x : Reg), s.base + x.val ≤ 0xFFF → exec (.stRegs x) s = .next t →
    u.mem = t.mem → u.cfg = t.cfg → u.index = s.index →
    ∃ r, exec (.ldRegs x) u = .next r ∧ ∀ k : Reg, k ≤ x → r.getV k = s.getV k

/-- O41. 20_memory R65, on FX55. -/
def Obligations.StoreIsSeenByTheNextFetch : Prop :=
  ∀ (s t : State) (x : Reg), 1 ≤ x.val → s.base = s.pc.toNat + 2 → s.base + x.val ≤ 0xFFF →
    exec (.stRegs x) s = .next t →
    ∃ w, t.fetchWord = .ok w ∧ w.toNat = (s.getV 0).toNat * 256 + (s.getV 1).toNat

/-- O42. 43_display R160. -/
def Obligations.ClearScreen : Prop :=
  ∀ s : State, EncodedAs .cls 0x00E0 0xFFFF ∧
    ∃ t, exec .cls s = .next t ∧ (∀ p, t.cell p = false) ∧ t.draw = true ∧ t.pc = s.pc + 2 ∧
      SameRegsBut s t [] ∧ SameMemory s t ∧ t = { s with fb := t.fb, draw := t.draw, pc := t.pc }

/-- O43. 43_display R161 and R162: the loop over rows and columns equals one XOR of the whole sprite. -/
def Obligations.DrawXorsTheSpriteOntoTheCells : Prop :=
  ∀ (s : State) (x y : Reg) (n : Fin 16), EncodedAs (.drw x y n) 0xD000 0xF000 ∧
    ((n.val = 0 ∨ s.base + n.val - 1 ≤ 0xFFF) → ∃ t, exec (.drw x y n) s = .next t ∧
      (∀ p, DrawsPixel s x y n p → t.cell p = !s.cell p) ∧ (∀ p, ¬ DrawsPixel s x y n p → t.cell p = s.cell p) ∧
      ((∃ p, DrawsPixel s x y n p ∧ s.cell p = true) → t.getV vf = 1) ∧
      ((¬ ∃ p, DrawsPixel s x y n p ∧ s.cell p = true) → t.getV vf = 0) ∧
      t.draw = true ∧ t.pc = s.pc + 2 ∧ SameRegsBut s t [vf] ∧ SameMemory s t ∧
      t = { s with fb := t.fb, v := t.v, draw := t.draw, pc := t.pc }) ∧
    (0 < n.val → 0xFFF < s.base + n.val - 1 → TakesFault (.drw x y n) s .dataRange)

/-- O44. The self-inverse property of 43_display R161. Its VF part needs a drawn cell that was 0 before: a cell that was 1 is cleared by the first draw, so the second cannot collide there (R161's own rule for VF, log 17; 90_conflicts C14 restricts the source's sentence). -/
def Obligations.DrawingTwiceRestoresTheFramebuffer : Prop :=
  ∀ (s t u : State) (x y : Reg) (n : Fin 16), x ≠ vf → y ≠ vf → (n.val = 0 ∨ s.base + n.val - 1 ≤ 0xFFF) →
    exec (.drw x y n) s = .next t → exec (.drw x y n) t = .next u →
    u.fb = s.fb ∧ (u.getV vf = 1 ↔ ∃ p, DrawsPixel s x y n p ∧ s.cell p = false)

/-- O45. 44_keypad_timers R184 and R185. -/
def Obligations.TimerWrites : Prop :=
  ∀ (s : State) (x : Reg),
    (EncodedAs (.ldDtVx x) 0xF015 0xF0FF ∧ ∃ t, exec (.ldDtVx x) s = .next t ∧ t.dt = s.getV x ∧ t.pc = s.pc + 2 ∧
      SameRegsBut s t [] ∧ SameMemory s t ∧ t = { s with dt := t.dt, pc := t.pc }) ∧
    (EncodedAs (.ldStVx x) 0xF018 0xF0FF ∧ ∃ t, exec (.ldStVx x) s = .next t ∧ t.st = s.getV x ∧ t.pc = s.pc + 2 ∧
      SameRegsBut s t [] ∧ SameMemory s t ∧ t = { s with st := t.st, pc := t.pc })

/-- O46. 44_keypad_timers R183 and 60_exceptions R223. That the drawn key is the one the free value Config.keyDraw picks (log 4), and that each draw advances a count (log 3), are the model's choice. -/
def Obligations.WaitForKeyByLevelOrEdge : Prop :=
  ∀ (s : State) (x : Reg), EncodedAs (.ldVxK x) 0xF00A 0xF0FF ∧
    (s.cfg.fx0aTrigger = .level →
      ((∀ k, s.pressed k = false) → exec (.ldVxK x) s = .next s) ∧
      ((∃ k, s.pressed k = true) → ∃ t k ks, exec (.ldVxK x) s = .next t ∧
        (∀ j, j ∈ k :: ks ↔ s.pressed j = true) ∧ (∀ j, s.pressed j = true → ∃ n, pickKey n k ks = j) ∧
        (t.getV x).toNat = (pickKey (Config.keyDraw s.draws) k ks).val ∧ pickKey (Config.keyDraw s.draws) k ks ∈ k :: ks ∧
        SameRegsBut s t [x] ∧ t.pc = s.pc + 2 ∧ SameMemory s t ∧ t = { s with v := t.v, pc := t.pc, draws := s.draws + 1 })) ∧
    (s.cfg.fx0aTrigger = .edge →
      (s.wait = false → exec (.ldVxK x) s = .next { s with wait := true, ksnap := s.key }) ∧
      (s.wait = true → (∀ k, s.pressed k = true → s.snapped k = true) →
        exec (.ldVxK x) s = .next { s with ksnap := s.key }) ∧
      (s.wait = true → (∃ k, s.pressed k = true ∧ s.snapped k = false) → ∃ t k ks, exec (.ldVxK x) s = .next t ∧
        (∀ j, j ∈ k :: ks ↔ s.pressed j = true ∧ s.snapped j = false) ∧
        (∀ j, s.pressed j = true → s.snapped j = false → ∃ n, pickKey n k ks = j) ∧
        (t.getV x).toNat = (pickKey (Config.keyDraw s.draws) k ks).val ∧ pickKey (Config.keyDraw s.draws) k ks ∈ k :: ks ∧
        SameRegsBut s t [x] ∧ t.pc = s.pc + 2 ∧ SameMemory s t ∧
        t = { s with v := t.v, pc := t.pc, draws := s.draws + 1, wait := false }))

/-- O47. 60_exceptions R223: any member of the non-empty set S, and a model must admit every member (44_keypad_timers R183). -/
def Obligations.KeyChoiceAdmitsEveryMember : Prop :=
  ∀ (k : Key) (ks : List Key),
    (∀ n, pickKey n k ks ∈ k :: ks) ∧ (∀ j ∈ k :: ks, ∃ n, pickKey n k ks = j)

/-- O48. 60_exceptions R211. -/
def Obligations.TickDecrementsBothTimers : Prop :=
  ∀ s : State, (s.transact .tick).1.dt.toNat = s.dt.toNat - 1 ∧ (s.transact .tick).1.st.toNat = s.st.toNat - 1 ∧
    (s.transact .tick).1 = { s with dt := (s.transact .tick).1.dt, st := (s.transact .tick).1.st }

/-- O49. 60_exceptions R211 repeated; the sound output is on while ST is not 0 (R213). -/
def Obligations.TicksCountDownToZeroAndStay : Prop :=
  ∀ (s : State) (n : Nat),
    (s.transactAll (List.replicate n .tick)).dt.toNat = s.dt.toNat - n ∧
    (s.transactAll (List.replicate n .tick)).st.toNat = s.st.toNat - n ∧
    ((s.transactAll (List.replicate n .tick)).soundOn = false ↔ s.st.toNat ≤ n)

/-- O50. 60_exceptions R207 and R224. -/
def Obligations.LoadCopiesTheImageOrRefuses : Prop :=
  ∀ (s : State) (bytes : List Byte),
    (3584 < bytes.length → s.transact (.load bytes) = (s, .loadError)) ∧
    (bytes.length ≤ 3584 → ∃ t, s.transact (.load bytes) = (t, .ok) ∧
      (∀ k, (h : k < bytes.length) → t.peek (0x200 + k) = bytes[k]) ∧
      SameMemoryOutside s t 0x200 bytes.length ∧ t = { s with mem := t.mem })

/-- O51. 60_exceptions R225 and R226. -/
def Obligations.HostWritesKeysAndClearsDraw : Prop :=
  ∀ (s : State) (k : Key) (b : Bool),
    (∀ j, (s.transact (.keySet k b)).1.pressed j = if j = k then b else s.pressed j) ∧
    (s.transact (.keySet k b)).1 = { s with key := (s.transact (.keySet k b)).1.key } ∧
    (s.transact .drawAck).1 = { s with draw := false }

/-- O52. 10_state R39 and 70_reset_and_hazards R241. The default parameters are those of 00_scope R6; that State.reset holds them, in a field, is the model's choice (log 1). -/
def Obligations.ResetLeavesTheStatedValues : Prop :=
  (∀ cfg : Params, HoldsResetValues (State.resetWith cfg) ∧ (State.resetWith cfg).cfg = cfg) ∧
  HoldsResetValues State.reset ∧ State.reset.pc = 0x200 ∧ State.reset.cfg.shiftSrc = .vx ∧
  State.reset.cfg.ldstInc = .none ∧ State.reset.cfg.fx0aTrigger = .level

/-- O53. 70_reset_and_hazards R240. The parameters are fixed (10_state R36); that INIT keeps the model's own fields, the parameters and the event list among them, is the model's choice (log 9). -/
def Obligations.InitResetsEveryField : Prop :=
  ∀ s : State, HoldsResetValues (s.transact .init).1 ∧ (s.transact .init).1.fault = false ∧
    (s.transact .init).1.cfg = s.cfg ∧ (s.transact .init).1.events = s.events

/-- O54. 70_reset_and_hazards R242. -/
def Obligations.InitIsIdempotentAndLoadsNoProgram : Prop :=
  ∀ s i : State, i = (s.transact .init).1 →
    (i.transact .init).1 = i ∧ (∀ a, 0x200 ≤ a → a ≤ 0xFFF → i.peek a = 0) ∧
    step i = .next { i with events := i.events ++ [.decodeError 0x200 0x0000], pc := 0x202 }

/-- O55. 60_exceptions R227. -/
def Obligations.SettledStaysSettled : Prop :=
  ∀ s : State, s.Settled → ∃ t, step s = .next t ∧ t.wait = false ∧ s.fetchWord = .ok t.op ∧
    t = { s with op := t.op, wait := t.wait } ∧ t.Settled ∧ step t = .next t
end

