-- ==== Sys2Proof/Laws/Decode.lean ====
section
/-! SUPPORT. The small lemmas of the decoder's fields, the encoder's forms and the table's masks, as numbers
(spec/30_encoding.md R71, R72). -/

namespace Sys2Proof

/-! ## The fields of a word -/

theorem fieldF_eq (w : Word) : fieldF w = w.toNat / 4096 := by
  simp [fieldF, BitVec.extractLsb'_toNat, Nat.shiftRight_eq_div_pow]; omega

theorem fieldX_eq (w : Word) : (fieldX w).val = w.toNat / 256 % 16 := by
  simp [fieldX, Nat.shiftRight_eq_div_pow]

theorem fieldY_eq (w : Word) : (fieldY w).val = w.toNat / 16 % 16 := by
  simp [fieldY, Nat.shiftRight_eq_div_pow]

theorem fieldN_eq (w : Word) : (fieldN w).val = w.toNat % 16 := by
  simp [fieldN]

theorem fieldNN_eq (w : Word) : (fieldNN w).toNat = w.toNat % 256 := by
  simp [fieldNN, BitVec.extractLsb'_toNat]

theorem fieldNNN_eq (w : Word) : (fieldNNN w).toNat = w.toNat % 4096 := by
  simp [fieldNNN, BitVec.extractLsb'_toNat]

/-! ## The forms of the encoder -/

/-- Concatenation as a number (00_scope R7). -/
theorem toNat_append_eq {m n : Nat} (a : BitVec m) (b : BitVec n) : (a ++ b).toNat = a.toNat * 2 ^ n + b.toNat := by
  rw [BitVec.toNat_append, ← Nat.shiftLeft_add_eq_or_of_lt b.isLt, Nat.shiftLeft_eq]

theorem encodeXNN_toNat (f : BitVec 4) (x : Reg) (nn : Byte) :
    (encodeXNN f x nn).toNat = f.toNat * 4096 + x.val * 256 + nn.toNat := by
  rw [encodeXNN, toNat_append_eq, toNat_append_eq]; simp; omega

theorem encodeXYN_toNat (f : BitVec 4) (x y : Reg) (n : Fin 16) :
    (encodeXYN f x y n).toNat = f.toNat * 4096 + x.val * 256 + y.val * 16 + n.val := by
  rw [encodeXYN, toNat_append_eq, toNat_append_eq, toNat_append_eq]; simp; omega

theorem encodeNNN_toNat (f : BitVec 4) (nnn : Addr12) : (encodeNNN f nnn).toNat = f.toNat * 4096 + nnn.toNat := by
  rw [encodeNNN, toNat_append_eq]; simp

/-! ## The masks of the table, by the nibbles they keep -/

theorem and_mask_F000 (w : Word) : (w &&& 0xF000#16).toNat = w.toNat / 4096 * 4096 := by
  have : w &&& 0xF000#16 = w.extractLsb' 12 4 ++ 0#12 := by
    refine BitVec.eq_of_getLsbD_eq fun i hi => Eq.trans ?_ BitVec.getLsbD_append.symm
    interval_cases i <;> simp
  rw [this, toNat_append_eq]; simp [BitVec.extractLsb'_toNat, Nat.shiftRight_eq_div_pow]; omega

theorem and_mask_F00F (w : Word) : (w &&& 0xF00F#16).toNat = w.toNat / 4096 * 4096 + w.toNat % 16 := by
  have : w &&& 0xF00F#16 = w.extractLsb' 12 4 ++ 0#8 ++ w.extractLsb' 0 4 := by
    refine BitVec.eq_of_getLsbD_eq fun i hi => Eq.trans ?_ BitVec.getLsbD_append.symm
    rw [BitVec.getLsbD_append]
    interval_cases i <;> simp
  rw [this, toNat_append_eq, toNat_append_eq]; simp [BitVec.extractLsb'_toNat, Nat.shiftRight_eq_div_pow]; omega

theorem and_mask_F0FF (w : Word) : (w &&& 0xF0FF#16).toNat = w.toNat / 4096 * 4096 + w.toNat % 256 := by
  have : w &&& 0xF0FF#16 = w.extractLsb' 12 4 ++ 0#4 ++ w.extractLsb' 0 8 := by
    refine BitVec.eq_of_getLsbD_eq fun i hi => Eq.trans ?_ BitVec.getLsbD_append.symm
    rw [BitVec.getLsbD_append]
    interval_cases i <;> simp
  rw [this, toNat_append_eq, toNat_append_eq]; simp [BitVec.extractLsb'_toNat, Nat.shiftRight_eq_div_pow]; omega

theorem and_mask_FFFF (w : Word) : w &&& 0xFFFF#16 = w := by
  have : (0xFFFF#16) = BitVec.allOnes 16 := rfl
  rw [this, BitVec.and_allOnes]

/-! ## Byte order -/

/-- The word of two bytes as a number: the first is the high byte (20_memory R53). -/
theorem wordOfBytes_toNat (hi lo : Byte) : (wordOfBytes hi lo).toNat = hi.toNat * 256 + lo.toNat := by
  simp [wordOfBytes, Nat.shiftLeft_eq]
  have := hi.isLt
  have := lo.isLt
  rw [Nat.mod_eq_of_lt (by omega), show hi.toNat * 256 = hi.toNat <<< 8 by rw [Nat.shiftLeft_eq],
    Nat.mod_eq_of_lt (b := 65536) (by omega), ← Nat.shiftLeft_add_eq_or_of_lt (by omega)]

/-- A word laid out as bytes and read back is the word (20_memory R53). -/
theorem wordOfBytes_bytesOfWord (w : Word) : wordOfBytes (bytesOfWord w).1 (bytesOfWord w).2 = w := by
  apply BitVec.eq_of_toNat_eq
  rw [wordOfBytes_toNat]
  simp [bytesOfWord, BitVec.extractLsb'_toNat, Nat.shiftRight_eq_div_pow]
  omega

end Sys2Proof
end

