-- ==== Sys2Proof/Laws/Memory.lean ====
section
/-! SUPPORT. The laws of memory (spec/20_memory.md R52, R58): a read after a write gives the value written, a write leaves every
other address alone, and every memory operation keeps the canonical form. -/

namespace Sys2Proof.Machine

variable (font : Vector Byte 80)

/-! ## Reading -/

@[simp] theorem Memory.read_nil (a : Nat) : Memory.read font [] a = resetByte font a := rfl

theorem Memory.read_cons (k : Nat) (c : Byte) (rest : Memory) (a : Nat) :
    Memory.read font ((k, c) :: rest) a = if k = a then c else Memory.read font rest a := rfl

theorem Memory.read_erase_same (m : Memory) (a : Nat) : Memory.read font (m.erase a) a = resetByte font a := by
  induction m with
  | nil => rfl
  | cons c rest ih =>
    obtain ⟨k, b⟩ := c
    by_cases h : k = a
    · simpa [Memory.erase, h] using ih
    · simpa [Memory.erase, h, Memory.read_cons] using ih

theorem Memory.read_erase_other (m : Memory) {a b : Nat} (h : b ≠ a) :
    Memory.read font (m.erase a) b = Memory.read font m b := by
  induction m with
  | nil => rfl
  | cons c rest ih =>
    obtain ⟨k, d⟩ := c
    by_cases hk : k = a
    · subst hk
      simpa [Memory.erase, Memory.read_cons, Ne.symm h] using ih
    · by_cases hb : k = b
      · subst hb
        simp [Memory.erase, hk, Memory.read_cons]
      · simpa [Memory.erase, hk, Memory.read_cons, hb] using ih

theorem Memory.read_insert_same (m : Memory) (a : Nat) (b : Byte) : Memory.read font (m.insert a b) a = b := by
  induction m with
  | nil => simp [Memory.insert, Memory.read_cons]
  | cons c rest ih =>
    obtain ⟨k, d⟩ := c
    by_cases hk : k < a
    · simpa [Memory.insert, hk, Memory.read_cons, Nat.ne_of_lt hk] using ih
    · simp [Memory.insert, hk, Memory.read_cons]

theorem Memory.read_insert_other (m : Memory) {a c : Nat} (b : Byte) (h : c ≠ a) :
    Memory.read font (m.insert a b) c = Memory.read font m c := by
  induction m with
  | nil => simp [Memory.insert, Memory.read_cons, Ne.symm h]
  | cons e rest ih =>
    obtain ⟨k, d⟩ := e
    by_cases hk : k < a
    · simp [Memory.insert, hk, Memory.read_cons, ih]
    · simp [Memory.insert, hk, Memory.read_cons, Ne.symm h]

/-- A read after a write to the same address gives the byte written. -/
@[simp] theorem Memory.read_write_same (m : Memory) (a : Nat) (b : Byte) :
    Memory.read font (Memory.write font m a b) a = b := by
  by_cases h : b = resetByte font a
  · simp [Memory.write, ← h, Memory.read_erase_same]
  · simp [Memory.write, h, Memory.read_insert_same]

/-- A write leaves every other address alone. -/
theorem Memory.read_write_other (m : Memory) {a c : Nat} (b : Byte) (h : c ≠ a) :
    Memory.read font (Memory.write font m a b) c = Memory.read font m c := by
  by_cases hb : b = resetByte font a
  · simp [Memory.write, ← hb, Memory.read_erase_other font m h]
  · simp [Memory.write, hb, Memory.read_insert_other font _ b h, Memory.read_erase_other font m h]

/-- Bytes stored from `a` on are read back there, and every other address reads as before. -/
theorem Memory.read_writeList (bs : List Byte) (m : Memory) (a c : Nat) :
    Memory.read font (Memory.writeList font m a bs) c =
      if a ≤ c ∧ c < a + bs.length then bs.getD (c - a) 0 else Memory.read font m c := by
  induction bs generalizing m a with
  | nil => simp [Memory.writeList]
  | cons b bs ih =>
    rw [Memory.writeList, ih]
    rcases Nat.lt_trichotomy c a with h | h | h
    · rw [if_neg (by omega), if_neg (by omega), Memory.read_write_other font m b (by omega)]
    · subst h
      rw [if_neg (by omega), if_pos (by simp), Memory.read_write_same]
      simp
    · obtain ⟨d, rfl⟩ : ∃ d, c = a + 1 + d := ⟨c - (a + 1), by omega⟩
      by_cases hd : d < bs.length
      · rw [if_pos (by omega), if_pos (by simp; omega)]
        rw [show a + 1 + d - a = d + 1 by omega, show a + 1 + d - (a + 1) = d by omega]
        rfl
      · rw [if_neg (by omega), if_neg (by simp; omega), Memory.read_write_other font m b (by omega)]

/-! ## The canonical form -/

theorem Memory.wf_cons (a : Nat) (b : Byte) (rest : Memory) :
    Memory.wf font ((a, b) :: rest) = true ↔
      a < memSize ∧ b ≠ resetByte font a ∧ (∀ c ∈ rest, a < c.1) ∧ Memory.wf font rest = true := by
  simp [Memory.wf, and_assoc]

theorem Memory.mem_erase {m : Memory} {a : Nat} {c : Host.Cell} : c ∈ m.erase a ↔ c ∈ m ∧ c.1 ≠ a := by
  simp [Memory.erase]

theorem Memory.mem_insert {m : Memory} {a : Nat} {b : Byte} {c : Host.Cell} :
    c ∈ m.insert a b ↔ c = (a, b) ∨ c ∈ m := by
  induction m with
  | nil => simp [Memory.insert]
  | cons e rest ih =>
    obtain ⟨k, d⟩ := e
    by_cases h : k < a
    · simp [Memory.insert, h, ih]; tauto
    · simp [Memory.insert, h]

theorem Memory.wf_erase {m : Memory} (h : Memory.wf font m = true) (a : Nat) : Memory.wf font (m.erase a) = true := by
  induction m with
  | nil => rfl
  | cons c rest ih =>
    obtain ⟨k, b⟩ := c
    obtain ⟨h1, h2, h3, h4⟩ := (Memory.wf_cons font k b rest).1 h
    by_cases hk : k = a
    · simpa [Memory.erase, hk] using ih h4
    · have : Memory.erase ((k, b) :: rest) a = (k, b) :: Memory.erase rest a := by simp [Memory.erase, hk]
      rw [this, Memory.wf_cons]
      exact ⟨h1, h2, fun c hc => h3 c (Memory.mem_erase.1 hc).1, ih h4⟩

theorem Memory.wf_insert {m : Memory} {a : Nat} {b : Byte} (h : Memory.wf font m = true) (ha : a < memSize)
    (hb : b ≠ resetByte font a) (hm : ∀ c ∈ m, c.1 ≠ a) : Memory.wf font (m.insert a b) = true := by
  induction m with
  | nil => simpa [Memory.insert, Memory.wf] using ⟨ha, hb⟩
  | cons e rest ih =>
    obtain ⟨k, d⟩ := e
    obtain ⟨h1, h2, h3, h4⟩ := (Memory.wf_cons font k d rest).1 h
    by_cases hk : k < a
    · simp only [Memory.insert, hk, if_true]
      refine (Memory.wf_cons font k d _).2 ⟨h1, h2, fun c hc => ?_, ih h4 fun c hc => hm c (by simp [hc])⟩
      rcases Memory.mem_insert.1 hc with rfl | hc
      · exact hk
      · exact h3 c hc
    · simp only [Memory.insert, hk, if_false]
      have hka : a < k := by have := hm (k, d) (by simp); simp only at this; omega
      refine (Memory.wf_cons font a b _).2 ⟨ha, hb, fun c hc => ?_, h⟩
      rcases List.mem_cons.1 hc with rfl | hc
      · exact hka
      · exact lt_trans hka (h3 c hc)

/-- Storing a byte below 4096 keeps the canonical form. -/
theorem Memory.wf_write {m : Memory} (h : Memory.wf font m = true) {a : Nat} (ha : a < memSize) (b : Byte) :
    Memory.wf font (Memory.write font m a b) = true := by
  by_cases hb : b = resetByte font a
  · rw [Memory.write, if_pos hb]
    exact Memory.wf_erase font h a
  · rw [Memory.write, if_neg hb]
    exact Memory.wf_insert font (Memory.wf_erase font h a) ha hb fun c hc => (Memory.mem_erase.1 hc).2

/-- Storing bytes below 4096 keeps the canonical form. -/
theorem Memory.wf_writeList {bs : List Byte} {m : Memory} (h : Memory.wf font m = true) {a : Nat}
    (ha : a + bs.length ≤ memSize) : Memory.wf font (Memory.writeList font m a bs) = true := by
  induction bs generalizing m a with
  | nil => exact h
  | cons b bs ih =>
    simp only [List.length_cons] at ha
    exact ih (Memory.wf_write font h (by omega) b) (by omega)

/-- The memory of every reset state is in canonical form. -/
theorem State.reset_memory_wf (cfg : Params) : Memory.wf cfg.font (State.resetWith cfg).mem = true := rfl

end Sys2Proof.Machine
end

