-- ==== Sys2Proof/Laws/State.lean ====
section
/-! SUPPORT. One lemma per field and per reader for every update of the state (Machine/Ops.lean): true by rfl, so that no later
proof unfolds a record update. Then the lemmas of the updates that reach the field they read. -/

namespace Sys2Proof.Machine

variable (s : State)

/-! ### State.setV -/

@[simp] theorem State.setV_mem (x : Reg) (b : Byte) : (s.setV x b).mem = s.mem := rfl
@[simp] theorem State.setV_v (x : Reg) (b : Byte) : (s.setV x b).v = s.v.set x.val b x.isLt := rfl
@[simp] theorem State.setV_index (x : Reg) (b : Byte) : (s.setV x b).index = s.index := rfl
@[simp] theorem State.setV_pc (x : Reg) (b : Byte) : (s.setV x b).pc = s.pc := rfl
@[simp] theorem State.setV_stack (x : Reg) (b : Byte) : (s.setV x b).stack = s.stack := rfl
@[simp] theorem State.setV_sp (x : Reg) (b : Byte) : (s.setV x b).sp = s.sp := rfl
@[simp] theorem State.setV_dt (x : Reg) (b : Byte) : (s.setV x b).dt = s.dt := rfl
@[simp] theorem State.setV_st (x : Reg) (b : Byte) : (s.setV x b).st = s.st := rfl
@[simp] theorem State.setV_fb (x : Reg) (b : Byte) : (s.setV x b).fb = s.fb := rfl
@[simp] theorem State.setV_key (x : Reg) (b : Byte) : (s.setV x b).key = s.key := rfl
@[simp] theorem State.setV_op (x : Reg) (b : Byte) : (s.setV x b).op = s.op := rfl
@[simp] theorem State.setV_draw (x : Reg) (b : Byte) : (s.setV x b).draw = s.draw := rfl
@[simp] theorem State.setV_fault (x : Reg) (b : Byte) : (s.setV x b).fault = s.fault := rfl
@[simp] theorem State.setV_fcause (x : Reg) (b : Byte) : (s.setV x b).fcause = s.fcause := rfl
@[simp] theorem State.setV_fpc (x : Reg) (b : Byte) : (s.setV x b).fpc = s.fpc := rfl
@[simp] theorem State.setV_fop (x : Reg) (b : Byte) : (s.setV x b).fop = s.fop := rfl
@[simp] theorem State.setV_wait (x : Reg) (b : Byte) : (s.setV x b).wait = s.wait := rfl
@[simp] theorem State.setV_ksnap (x : Reg) (b : Byte) : (s.setV x b).ksnap = s.ksnap := rfl
@[simp] theorem State.setV_cfg (x : Reg) (b : Byte) : (s.setV x b).cfg = s.cfg := rfl
@[simp] theorem State.setV_draws (x : Reg) (b : Byte) : (s.setV x b).draws = s.draws := rfl
@[simp] theorem State.setV_events (x : Reg) (b : Byte) : (s.setV x b).events = s.events := rfl
@[simp] theorem State.setV_slot (x : Reg) (b : Byte) (j : Fin 16) : (s.setV x b).slot j = s.slot j := rfl
@[simp] theorem State.setV_cell (x : Reg) (b : Byte) (p : Fin fbSize) : (s.setV x b).cell p = s.cell p := rfl
@[simp] theorem State.setV_pressed (x : Reg) (b : Byte) (j : Key) : (s.setV x b).pressed j = s.pressed j := rfl
@[simp] theorem State.setV_snapped (x : Reg) (b : Byte) (j : Key) : (s.setV x b).snapped j = s.snapped j := rfl
@[simp] theorem State.setV_peek (x : Reg) (b : Byte) (a : Nat) : (s.setV x b).peek a = s.peek a := rfl

/-! ### State.setVs -/

@[simp] theorem State.setVs_mem (v : Vector Byte 16) : (s.setVs v).mem = s.mem := rfl
@[simp] theorem State.setVs_v (v : Vector Byte 16) : (s.setVs v).v = v := rfl
@[simp] theorem State.setVs_index (v : Vector Byte 16) : (s.setVs v).index = s.index := rfl
@[simp] theorem State.setVs_pc (v : Vector Byte 16) : (s.setVs v).pc = s.pc := rfl
@[simp] theorem State.setVs_stack (v : Vector Byte 16) : (s.setVs v).stack = s.stack := rfl
@[simp] theorem State.setVs_sp (v : Vector Byte 16) : (s.setVs v).sp = s.sp := rfl
@[simp] theorem State.setVs_dt (v : Vector Byte 16) : (s.setVs v).dt = s.dt := rfl
@[simp] theorem State.setVs_st (v : Vector Byte 16) : (s.setVs v).st = s.st := rfl
@[simp] theorem State.setVs_fb (v : Vector Byte 16) : (s.setVs v).fb = s.fb := rfl
@[simp] theorem State.setVs_key (v : Vector Byte 16) : (s.setVs v).key = s.key := rfl
@[simp] theorem State.setVs_op (v : Vector Byte 16) : (s.setVs v).op = s.op := rfl
@[simp] theorem State.setVs_draw (v : Vector Byte 16) : (s.setVs v).draw = s.draw := rfl
@[simp] theorem State.setVs_fault (v : Vector Byte 16) : (s.setVs v).fault = s.fault := rfl
@[simp] theorem State.setVs_fcause (v : Vector Byte 16) : (s.setVs v).fcause = s.fcause := rfl
@[simp] theorem State.setVs_fpc (v : Vector Byte 16) : (s.setVs v).fpc = s.fpc := rfl
@[simp] theorem State.setVs_fop (v : Vector Byte 16) : (s.setVs v).fop = s.fop := rfl
@[simp] theorem State.setVs_wait (v : Vector Byte 16) : (s.setVs v).wait = s.wait := rfl
@[simp] theorem State.setVs_ksnap (v : Vector Byte 16) : (s.setVs v).ksnap = s.ksnap := rfl
@[simp] theorem State.setVs_cfg (v : Vector Byte 16) : (s.setVs v).cfg = s.cfg := rfl
@[simp] theorem State.setVs_draws (v : Vector Byte 16) : (s.setVs v).draws = s.draws := rfl
@[simp] theorem State.setVs_events (v : Vector Byte 16) : (s.setVs v).events = s.events := rfl
@[simp] theorem State.setVs_slot (v : Vector Byte 16) (j : Fin 16) : (s.setVs v).slot j = s.slot j := rfl
@[simp] theorem State.setVs_cell (v : Vector Byte 16) (p : Fin fbSize) : (s.setVs v).cell p = s.cell p := rfl
@[simp] theorem State.setVs_pressed (v : Vector Byte 16) (j : Key) : (s.setVs v).pressed j = s.pressed j := rfl
@[simp] theorem State.setVs_snapped (v : Vector Byte 16) (j : Key) : (s.setVs v).snapped j = s.snapped j := rfl
@[simp] theorem State.setVs_peek (v : Vector Byte 16) (a : Nat) : (s.setVs v).peek a = s.peek a := rfl

/-! ### State.setIndex -/

@[simp] theorem State.setIndex_mem (w : Word) : (s.setIndex w).mem = s.mem := rfl
@[simp] theorem State.setIndex_v (w : Word) : (s.setIndex w).v = s.v := rfl
@[simp] theorem State.setIndex_index (w : Word) : (s.setIndex w).index = w := rfl
@[simp] theorem State.setIndex_pc (w : Word) : (s.setIndex w).pc = s.pc := rfl
@[simp] theorem State.setIndex_stack (w : Word) : (s.setIndex w).stack = s.stack := rfl
@[simp] theorem State.setIndex_sp (w : Word) : (s.setIndex w).sp = s.sp := rfl
@[simp] theorem State.setIndex_dt (w : Word) : (s.setIndex w).dt = s.dt := rfl
@[simp] theorem State.setIndex_st (w : Word) : (s.setIndex w).st = s.st := rfl
@[simp] theorem State.setIndex_fb (w : Word) : (s.setIndex w).fb = s.fb := rfl
@[simp] theorem State.setIndex_key (w : Word) : (s.setIndex w).key = s.key := rfl
@[simp] theorem State.setIndex_op (w : Word) : (s.setIndex w).op = s.op := rfl
@[simp] theorem State.setIndex_draw (w : Word) : (s.setIndex w).draw = s.draw := rfl
@[simp] theorem State.setIndex_fault (w : Word) : (s.setIndex w).fault = s.fault := rfl
@[simp] theorem State.setIndex_fcause (w : Word) : (s.setIndex w).fcause = s.fcause := rfl
@[simp] theorem State.setIndex_fpc (w : Word) : (s.setIndex w).fpc = s.fpc := rfl
@[simp] theorem State.setIndex_fop (w : Word) : (s.setIndex w).fop = s.fop := rfl
@[simp] theorem State.setIndex_wait (w : Word) : (s.setIndex w).wait = s.wait := rfl
@[simp] theorem State.setIndex_ksnap (w : Word) : (s.setIndex w).ksnap = s.ksnap := rfl
@[simp] theorem State.setIndex_cfg (w : Word) : (s.setIndex w).cfg = s.cfg := rfl
@[simp] theorem State.setIndex_draws (w : Word) : (s.setIndex w).draws = s.draws := rfl
@[simp] theorem State.setIndex_events (w : Word) : (s.setIndex w).events = s.events := rfl
@[simp] theorem State.setIndex_getV (w : Word) (r : Reg) : (s.setIndex w).getV r = s.getV r := rfl
@[simp] theorem State.setIndex_slot (w : Word) (j : Fin 16) : (s.setIndex w).slot j = s.slot j := rfl
@[simp] theorem State.setIndex_cell (w : Word) (p : Fin fbSize) : (s.setIndex w).cell p = s.cell p := rfl
@[simp] theorem State.setIndex_pressed (w : Word) (j : Key) : (s.setIndex w).pressed j = s.pressed j := rfl
@[simp] theorem State.setIndex_snapped (w : Word) (j : Key) : (s.setIndex w).snapped j = s.snapped j := rfl
@[simp] theorem State.setIndex_peek (w : Word) (a : Nat) : (s.setIndex w).peek a = s.peek a := rfl

/-! ### State.setPc -/

@[simp] theorem State.setPc_mem (w : Word) : (s.setPc w).mem = s.mem := rfl
@[simp] theorem State.setPc_v (w : Word) : (s.setPc w).v = s.v := rfl
@[simp] theorem State.setPc_index (w : Word) : (s.setPc w).index = s.index := rfl
@[simp] theorem State.setPc_pc (w : Word) : (s.setPc w).pc = w := rfl
@[simp] theorem State.setPc_stack (w : Word) : (s.setPc w).stack = s.stack := rfl
@[simp] theorem State.setPc_sp (w : Word) : (s.setPc w).sp = s.sp := rfl
@[simp] theorem State.setPc_dt (w : Word) : (s.setPc w).dt = s.dt := rfl
@[simp] theorem State.setPc_st (w : Word) : (s.setPc w).st = s.st := rfl
@[simp] theorem State.setPc_fb (w : Word) : (s.setPc w).fb = s.fb := rfl
@[simp] theorem State.setPc_key (w : Word) : (s.setPc w).key = s.key := rfl
@[simp] theorem State.setPc_op (w : Word) : (s.setPc w).op = s.op := rfl
@[simp] theorem State.setPc_draw (w : Word) : (s.setPc w).draw = s.draw := rfl
@[simp] theorem State.setPc_fault (w : Word) : (s.setPc w).fault = s.fault := rfl
@[simp] theorem State.setPc_fcause (w : Word) : (s.setPc w).fcause = s.fcause := rfl
@[simp] theorem State.setPc_fpc (w : Word) : (s.setPc w).fpc = s.fpc := rfl
@[simp] theorem State.setPc_fop (w : Word) : (s.setPc w).fop = s.fop := rfl
@[simp] theorem State.setPc_wait (w : Word) : (s.setPc w).wait = s.wait := rfl
@[simp] theorem State.setPc_ksnap (w : Word) : (s.setPc w).ksnap = s.ksnap := rfl
@[simp] theorem State.setPc_cfg (w : Word) : (s.setPc w).cfg = s.cfg := rfl
@[simp] theorem State.setPc_draws (w : Word) : (s.setPc w).draws = s.draws := rfl
@[simp] theorem State.setPc_events (w : Word) : (s.setPc w).events = s.events := rfl
@[simp] theorem State.setPc_getV (w : Word) (r : Reg) : (s.setPc w).getV r = s.getV r := rfl
@[simp] theorem State.setPc_slot (w : Word) (j : Fin 16) : (s.setPc w).slot j = s.slot j := rfl
@[simp] theorem State.setPc_cell (w : Word) (p : Fin fbSize) : (s.setPc w).cell p = s.cell p := rfl
@[simp] theorem State.setPc_pressed (w : Word) (j : Key) : (s.setPc w).pressed j = s.pressed j := rfl
@[simp] theorem State.setPc_snapped (w : Word) (j : Key) : (s.setPc w).snapped j = s.snapped j := rfl
@[simp] theorem State.setPc_peek (w : Word) (a : Nat) : (s.setPc w).peek a = s.peek a := rfl

/-! ### State.setDt -/

@[simp] theorem State.setDt_mem (b : Byte) : (s.setDt b).mem = s.mem := rfl
@[simp] theorem State.setDt_v (b : Byte) : (s.setDt b).v = s.v := rfl
@[simp] theorem State.setDt_index (b : Byte) : (s.setDt b).index = s.index := rfl
@[simp] theorem State.setDt_pc (b : Byte) : (s.setDt b).pc = s.pc := rfl
@[simp] theorem State.setDt_stack (b : Byte) : (s.setDt b).stack = s.stack := rfl
@[simp] theorem State.setDt_sp (b : Byte) : (s.setDt b).sp = s.sp := rfl
@[simp] theorem State.setDt_dt (b : Byte) : (s.setDt b).dt = b := rfl
@[simp] theorem State.setDt_st (b : Byte) : (s.setDt b).st = s.st := rfl
@[simp] theorem State.setDt_fb (b : Byte) : (s.setDt b).fb = s.fb := rfl
@[simp] theorem State.setDt_key (b : Byte) : (s.setDt b).key = s.key := rfl
@[simp] theorem State.setDt_op (b : Byte) : (s.setDt b).op = s.op := rfl
@[simp] theorem State.setDt_draw (b : Byte) : (s.setDt b).draw = s.draw := rfl
@[simp] theorem State.setDt_fault (b : Byte) : (s.setDt b).fault = s.fault := rfl
@[simp] theorem State.setDt_fcause (b : Byte) : (s.setDt b).fcause = s.fcause := rfl
@[simp] theorem State.setDt_fpc (b : Byte) : (s.setDt b).fpc = s.fpc := rfl
@[simp] theorem State.setDt_fop (b : Byte) : (s.setDt b).fop = s.fop := rfl
@[simp] theorem State.setDt_wait (b : Byte) : (s.setDt b).wait = s.wait := rfl
@[simp] theorem State.setDt_ksnap (b : Byte) : (s.setDt b).ksnap = s.ksnap := rfl
@[simp] theorem State.setDt_cfg (b : Byte) : (s.setDt b).cfg = s.cfg := rfl
@[simp] theorem State.setDt_draws (b : Byte) : (s.setDt b).draws = s.draws := rfl
@[simp] theorem State.setDt_events (b : Byte) : (s.setDt b).events = s.events := rfl
@[simp] theorem State.setDt_getV (b : Byte) (r : Reg) : (s.setDt b).getV r = s.getV r := rfl
@[simp] theorem State.setDt_slot (b : Byte) (j : Fin 16) : (s.setDt b).slot j = s.slot j := rfl
@[simp] theorem State.setDt_cell (b : Byte) (p : Fin fbSize) : (s.setDt b).cell p = s.cell p := rfl
@[simp] theorem State.setDt_pressed (b : Byte) (j : Key) : (s.setDt b).pressed j = s.pressed j := rfl
@[simp] theorem State.setDt_snapped (b : Byte) (j : Key) : (s.setDt b).snapped j = s.snapped j := rfl
@[simp] theorem State.setDt_peek (b : Byte) (a : Nat) : (s.setDt b).peek a = s.peek a := rfl

/-! ### State.setSt -/

@[simp] theorem State.setSt_mem (b : Byte) : (s.setSt b).mem = s.mem := rfl
@[simp] theorem State.setSt_v (b : Byte) : (s.setSt b).v = s.v := rfl
@[simp] theorem State.setSt_index (b : Byte) : (s.setSt b).index = s.index := rfl
@[simp] theorem State.setSt_pc (b : Byte) : (s.setSt b).pc = s.pc := rfl
@[simp] theorem State.setSt_stack (b : Byte) : (s.setSt b).stack = s.stack := rfl
@[simp] theorem State.setSt_sp (b : Byte) : (s.setSt b).sp = s.sp := rfl
@[simp] theorem State.setSt_dt (b : Byte) : (s.setSt b).dt = s.dt := rfl
@[simp] theorem State.setSt_st (b : Byte) : (s.setSt b).st = b := rfl
@[simp] theorem State.setSt_fb (b : Byte) : (s.setSt b).fb = s.fb := rfl
@[simp] theorem State.setSt_key (b : Byte) : (s.setSt b).key = s.key := rfl
@[simp] theorem State.setSt_op (b : Byte) : (s.setSt b).op = s.op := rfl
@[simp] theorem State.setSt_draw (b : Byte) : (s.setSt b).draw = s.draw := rfl
@[simp] theorem State.setSt_fault (b : Byte) : (s.setSt b).fault = s.fault := rfl
@[simp] theorem State.setSt_fcause (b : Byte) : (s.setSt b).fcause = s.fcause := rfl
@[simp] theorem State.setSt_fpc (b : Byte) : (s.setSt b).fpc = s.fpc := rfl
@[simp] theorem State.setSt_fop (b : Byte) : (s.setSt b).fop = s.fop := rfl
@[simp] theorem State.setSt_wait (b : Byte) : (s.setSt b).wait = s.wait := rfl
@[simp] theorem State.setSt_ksnap (b : Byte) : (s.setSt b).ksnap = s.ksnap := rfl
@[simp] theorem State.setSt_cfg (b : Byte) : (s.setSt b).cfg = s.cfg := rfl
@[simp] theorem State.setSt_draws (b : Byte) : (s.setSt b).draws = s.draws := rfl
@[simp] theorem State.setSt_events (b : Byte) : (s.setSt b).events = s.events := rfl
@[simp] theorem State.setSt_getV (b : Byte) (r : Reg) : (s.setSt b).getV r = s.getV r := rfl
@[simp] theorem State.setSt_slot (b : Byte) (j : Fin 16) : (s.setSt b).slot j = s.slot j := rfl
@[simp] theorem State.setSt_cell (b : Byte) (p : Fin fbSize) : (s.setSt b).cell p = s.cell p := rfl
@[simp] theorem State.setSt_pressed (b : Byte) (j : Key) : (s.setSt b).pressed j = s.pressed j := rfl
@[simp] theorem State.setSt_snapped (b : Byte) (j : Key) : (s.setSt b).snapped j = s.snapped j := rfl
@[simp] theorem State.setSt_peek (b : Byte) (a : Nat) : (s.setSt b).peek a = s.peek a := rfl

/-! ### State.setFb -/

@[simp] theorem State.setFb_mem (fb : Framebuffer) : (s.setFb fb).mem = s.mem := rfl
@[simp] theorem State.setFb_v (fb : Framebuffer) : (s.setFb fb).v = s.v := rfl
@[simp] theorem State.setFb_index (fb : Framebuffer) : (s.setFb fb).index = s.index := rfl
@[simp] theorem State.setFb_pc (fb : Framebuffer) : (s.setFb fb).pc = s.pc := rfl
@[simp] theorem State.setFb_stack (fb : Framebuffer) : (s.setFb fb).stack = s.stack := rfl
@[simp] theorem State.setFb_sp (fb : Framebuffer) : (s.setFb fb).sp = s.sp := rfl
@[simp] theorem State.setFb_dt (fb : Framebuffer) : (s.setFb fb).dt = s.dt := rfl
@[simp] theorem State.setFb_st (fb : Framebuffer) : (s.setFb fb).st = s.st := rfl
@[simp] theorem State.setFb_fb (fb : Framebuffer) : (s.setFb fb).fb = fb := rfl
@[simp] theorem State.setFb_key (fb : Framebuffer) : (s.setFb fb).key = s.key := rfl
@[simp] theorem State.setFb_op (fb : Framebuffer) : (s.setFb fb).op = s.op := rfl
@[simp] theorem State.setFb_draw (fb : Framebuffer) : (s.setFb fb).draw = s.draw := rfl
@[simp] theorem State.setFb_fault (fb : Framebuffer) : (s.setFb fb).fault = s.fault := rfl
@[simp] theorem State.setFb_fcause (fb : Framebuffer) : (s.setFb fb).fcause = s.fcause := rfl
@[simp] theorem State.setFb_fpc (fb : Framebuffer) : (s.setFb fb).fpc = s.fpc := rfl
@[simp] theorem State.setFb_fop (fb : Framebuffer) : (s.setFb fb).fop = s.fop := rfl
@[simp] theorem State.setFb_wait (fb : Framebuffer) : (s.setFb fb).wait = s.wait := rfl
@[simp] theorem State.setFb_ksnap (fb : Framebuffer) : (s.setFb fb).ksnap = s.ksnap := rfl
@[simp] theorem State.setFb_cfg (fb : Framebuffer) : (s.setFb fb).cfg = s.cfg := rfl
@[simp] theorem State.setFb_draws (fb : Framebuffer) : (s.setFb fb).draws = s.draws := rfl
@[simp] theorem State.setFb_events (fb : Framebuffer) : (s.setFb fb).events = s.events := rfl
@[simp] theorem State.setFb_getV (fb : Framebuffer) (r : Reg) : (s.setFb fb).getV r = s.getV r := rfl
@[simp] theorem State.setFb_slot (fb : Framebuffer) (j : Fin 16) : (s.setFb fb).slot j = s.slot j := rfl
@[simp] theorem State.setFb_pressed (fb : Framebuffer) (j : Key) : (s.setFb fb).pressed j = s.pressed j := rfl
@[simp] theorem State.setFb_snapped (fb : Framebuffer) (j : Key) : (s.setFb fb).snapped j = s.snapped j := rfl
@[simp] theorem State.setFb_peek (fb : Framebuffer) (a : Nat) : (s.setFb fb).peek a = s.peek a := rfl

/-! ### State.setDraw -/

@[simp] theorem State.setDraw_mem (b : Bool) : (s.setDraw b).mem = s.mem := rfl
@[simp] theorem State.setDraw_v (b : Bool) : (s.setDraw b).v = s.v := rfl
@[simp] theorem State.setDraw_index (b : Bool) : (s.setDraw b).index = s.index := rfl
@[simp] theorem State.setDraw_pc (b : Bool) : (s.setDraw b).pc = s.pc := rfl
@[simp] theorem State.setDraw_stack (b : Bool) : (s.setDraw b).stack = s.stack := rfl
@[simp] theorem State.setDraw_sp (b : Bool) : (s.setDraw b).sp = s.sp := rfl
@[simp] theorem State.setDraw_dt (b : Bool) : (s.setDraw b).dt = s.dt := rfl
@[simp] theorem State.setDraw_st (b : Bool) : (s.setDraw b).st = s.st := rfl
@[simp] theorem State.setDraw_fb (b : Bool) : (s.setDraw b).fb = s.fb := rfl
@[simp] theorem State.setDraw_key (b : Bool) : (s.setDraw b).key = s.key := rfl
@[simp] theorem State.setDraw_op (b : Bool) : (s.setDraw b).op = s.op := rfl
@[simp] theorem State.setDraw_draw (b : Bool) : (s.setDraw b).draw = b := rfl
@[simp] theorem State.setDraw_fault (b : Bool) : (s.setDraw b).fault = s.fault := rfl
@[simp] theorem State.setDraw_fcause (b : Bool) : (s.setDraw b).fcause = s.fcause := rfl
@[simp] theorem State.setDraw_fpc (b : Bool) : (s.setDraw b).fpc = s.fpc := rfl
@[simp] theorem State.setDraw_fop (b : Bool) : (s.setDraw b).fop = s.fop := rfl
@[simp] theorem State.setDraw_wait (b : Bool) : (s.setDraw b).wait = s.wait := rfl
@[simp] theorem State.setDraw_ksnap (b : Bool) : (s.setDraw b).ksnap = s.ksnap := rfl
@[simp] theorem State.setDraw_cfg (b : Bool) : (s.setDraw b).cfg = s.cfg := rfl
@[simp] theorem State.setDraw_draws (b : Bool) : (s.setDraw b).draws = s.draws := rfl
@[simp] theorem State.setDraw_events (b : Bool) : (s.setDraw b).events = s.events := rfl
@[simp] theorem State.setDraw_getV (b : Bool) (r : Reg) : (s.setDraw b).getV r = s.getV r := rfl
@[simp] theorem State.setDraw_slot (b : Bool) (j : Fin 16) : (s.setDraw b).slot j = s.slot j := rfl
@[simp] theorem State.setDraw_cell (b : Bool) (p : Fin fbSize) : (s.setDraw b).cell p = s.cell p := rfl
@[simp] theorem State.setDraw_pressed (b : Bool) (j : Key) : (s.setDraw b).pressed j = s.pressed j := rfl
@[simp] theorem State.setDraw_snapped (b : Bool) (j : Key) : (s.setDraw b).snapped j = s.snapped j := rfl
@[simp] theorem State.setDraw_peek (b : Bool) (a : Nat) : (s.setDraw b).peek a = s.peek a := rfl

/-! ### State.setOp -/

@[simp] theorem State.setOp_mem (w : Word) : (s.setOp w).mem = s.mem := rfl
@[simp] theorem State.setOp_v (w : Word) : (s.setOp w).v = s.v := rfl
@[simp] theorem State.setOp_index (w : Word) : (s.setOp w).index = s.index := rfl
@[simp] theorem State.setOp_pc (w : Word) : (s.setOp w).pc = s.pc := rfl
@[simp] theorem State.setOp_stack (w : Word) : (s.setOp w).stack = s.stack := rfl
@[simp] theorem State.setOp_sp (w : Word) : (s.setOp w).sp = s.sp := rfl
@[simp] theorem State.setOp_dt (w : Word) : (s.setOp w).dt = s.dt := rfl
@[simp] theorem State.setOp_st (w : Word) : (s.setOp w).st = s.st := rfl
@[simp] theorem State.setOp_fb (w : Word) : (s.setOp w).fb = s.fb := rfl
@[simp] theorem State.setOp_key (w : Word) : (s.setOp w).key = s.key := rfl
@[simp] theorem State.setOp_op (w : Word) : (s.setOp w).op = w := rfl
@[simp] theorem State.setOp_draw (w : Word) : (s.setOp w).draw = s.draw := rfl
@[simp] theorem State.setOp_fault (w : Word) : (s.setOp w).fault = s.fault := rfl
@[simp] theorem State.setOp_fcause (w : Word) : (s.setOp w).fcause = s.fcause := rfl
@[simp] theorem State.setOp_fpc (w : Word) : (s.setOp w).fpc = s.fpc := rfl
@[simp] theorem State.setOp_fop (w : Word) : (s.setOp w).fop = s.fop := rfl
@[simp] theorem State.setOp_wait (w : Word) : (s.setOp w).wait = s.wait := rfl
@[simp] theorem State.setOp_ksnap (w : Word) : (s.setOp w).ksnap = s.ksnap := rfl
@[simp] theorem State.setOp_cfg (w : Word) : (s.setOp w).cfg = s.cfg := rfl
@[simp] theorem State.setOp_draws (w : Word) : (s.setOp w).draws = s.draws := rfl
@[simp] theorem State.setOp_events (w : Word) : (s.setOp w).events = s.events := rfl
@[simp] theorem State.setOp_getV (w : Word) (r : Reg) : (s.setOp w).getV r = s.getV r := rfl
@[simp] theorem State.setOp_slot (w : Word) (j : Fin 16) : (s.setOp w).slot j = s.slot j := rfl
@[simp] theorem State.setOp_cell (w : Word) (p : Fin fbSize) : (s.setOp w).cell p = s.cell p := rfl
@[simp] theorem State.setOp_pressed (w : Word) (j : Key) : (s.setOp w).pressed j = s.pressed j := rfl
@[simp] theorem State.setOp_snapped (w : Word) (j : Key) : (s.setOp w).snapped j = s.snapped j := rfl
@[simp] theorem State.setOp_peek (w : Word) (a : Nat) : (s.setOp w).peek a = s.peek a := rfl

/-! ### State.setWait -/

@[simp] theorem State.setWait_mem (b : Bool) : (s.setWait b).mem = s.mem := rfl
@[simp] theorem State.setWait_v (b : Bool) : (s.setWait b).v = s.v := rfl
@[simp] theorem State.setWait_index (b : Bool) : (s.setWait b).index = s.index := rfl
@[simp] theorem State.setWait_pc (b : Bool) : (s.setWait b).pc = s.pc := rfl
@[simp] theorem State.setWait_stack (b : Bool) : (s.setWait b).stack = s.stack := rfl
@[simp] theorem State.setWait_sp (b : Bool) : (s.setWait b).sp = s.sp := rfl
@[simp] theorem State.setWait_dt (b : Bool) : (s.setWait b).dt = s.dt := rfl
@[simp] theorem State.setWait_st (b : Bool) : (s.setWait b).st = s.st := rfl
@[simp] theorem State.setWait_fb (b : Bool) : (s.setWait b).fb = s.fb := rfl
@[simp] theorem State.setWait_key (b : Bool) : (s.setWait b).key = s.key := rfl
@[simp] theorem State.setWait_op (b : Bool) : (s.setWait b).op = s.op := rfl
@[simp] theorem State.setWait_draw (b : Bool) : (s.setWait b).draw = s.draw := rfl
@[simp] theorem State.setWait_fault (b : Bool) : (s.setWait b).fault = s.fault := rfl
@[simp] theorem State.setWait_fcause (b : Bool) : (s.setWait b).fcause = s.fcause := rfl
@[simp] theorem State.setWait_fpc (b : Bool) : (s.setWait b).fpc = s.fpc := rfl
@[simp] theorem State.setWait_fop (b : Bool) : (s.setWait b).fop = s.fop := rfl
@[simp] theorem State.setWait_wait (b : Bool) : (s.setWait b).wait = b := rfl
@[simp] theorem State.setWait_ksnap (b : Bool) : (s.setWait b).ksnap = s.ksnap := rfl
@[simp] theorem State.setWait_cfg (b : Bool) : (s.setWait b).cfg = s.cfg := rfl
@[simp] theorem State.setWait_draws (b : Bool) : (s.setWait b).draws = s.draws := rfl
@[simp] theorem State.setWait_events (b : Bool) : (s.setWait b).events = s.events := rfl
@[simp] theorem State.setWait_getV (b : Bool) (r : Reg) : (s.setWait b).getV r = s.getV r := rfl
@[simp] theorem State.setWait_slot (b : Bool) (j : Fin 16) : (s.setWait b).slot j = s.slot j := rfl
@[simp] theorem State.setWait_cell (b : Bool) (p : Fin fbSize) : (s.setWait b).cell p = s.cell p := rfl
@[simp] theorem State.setWait_pressed (b : Bool) (j : Key) : (s.setWait b).pressed j = s.pressed j := rfl
@[simp] theorem State.setWait_snapped (b : Bool) (j : Key) : (s.setWait b).snapped j = s.snapped j := rfl
@[simp] theorem State.setWait_peek (b : Bool) (a : Nat) : (s.setWait b).peek a = s.peek a := rfl

/-! ### State.snapKeys -/

@[simp] theorem State.snapKeys_mem : (s.snapKeys).mem = s.mem := rfl
@[simp] theorem State.snapKeys_v : (s.snapKeys).v = s.v := rfl
@[simp] theorem State.snapKeys_index : (s.snapKeys).index = s.index := rfl
@[simp] theorem State.snapKeys_pc : (s.snapKeys).pc = s.pc := rfl
@[simp] theorem State.snapKeys_stack : (s.snapKeys).stack = s.stack := rfl
@[simp] theorem State.snapKeys_sp : (s.snapKeys).sp = s.sp := rfl
@[simp] theorem State.snapKeys_dt : (s.snapKeys).dt = s.dt := rfl
@[simp] theorem State.snapKeys_st : (s.snapKeys).st = s.st := rfl
@[simp] theorem State.snapKeys_fb : (s.snapKeys).fb = s.fb := rfl
@[simp] theorem State.snapKeys_key : (s.snapKeys).key = s.key := rfl
@[simp] theorem State.snapKeys_op : (s.snapKeys).op = s.op := rfl
@[simp] theorem State.snapKeys_draw : (s.snapKeys).draw = s.draw := rfl
@[simp] theorem State.snapKeys_fault : (s.snapKeys).fault = s.fault := rfl
@[simp] theorem State.snapKeys_fcause : (s.snapKeys).fcause = s.fcause := rfl
@[simp] theorem State.snapKeys_fpc : (s.snapKeys).fpc = s.fpc := rfl
@[simp] theorem State.snapKeys_fop : (s.snapKeys).fop = s.fop := rfl
@[simp] theorem State.snapKeys_wait : (s.snapKeys).wait = s.wait := rfl
@[simp] theorem State.snapKeys_ksnap : (s.snapKeys).ksnap = s.key := rfl
@[simp] theorem State.snapKeys_cfg : (s.snapKeys).cfg = s.cfg := rfl
@[simp] theorem State.snapKeys_draws : (s.snapKeys).draws = s.draws := rfl
@[simp] theorem State.snapKeys_events : (s.snapKeys).events = s.events := rfl
@[simp] theorem State.snapKeys_getV (r : Reg) : (s.snapKeys).getV r = s.getV r := rfl
@[simp] theorem State.snapKeys_slot (j : Fin 16) : (s.snapKeys).slot j = s.slot j := rfl
@[simp] theorem State.snapKeys_cell (p : Fin fbSize) : (s.snapKeys).cell p = s.cell p := rfl
@[simp] theorem State.snapKeys_pressed (j : Key) : (s.snapKeys).pressed j = s.pressed j := rfl
@[simp] theorem State.snapKeys_peek (a : Nat) : (s.snapKeys).peek a = s.peek a := rfl

/-! ### State.setMem -/

@[simp] theorem State.setMem_mem (m : Memory) : (s.setMem m).mem = m := rfl
@[simp] theorem State.setMem_v (m : Memory) : (s.setMem m).v = s.v := rfl
@[simp] theorem State.setMem_index (m : Memory) : (s.setMem m).index = s.index := rfl
@[simp] theorem State.setMem_pc (m : Memory) : (s.setMem m).pc = s.pc := rfl
@[simp] theorem State.setMem_stack (m : Memory) : (s.setMem m).stack = s.stack := rfl
@[simp] theorem State.setMem_sp (m : Memory) : (s.setMem m).sp = s.sp := rfl
@[simp] theorem State.setMem_dt (m : Memory) : (s.setMem m).dt = s.dt := rfl
@[simp] theorem State.setMem_st (m : Memory) : (s.setMem m).st = s.st := rfl
@[simp] theorem State.setMem_fb (m : Memory) : (s.setMem m).fb = s.fb := rfl
@[simp] theorem State.setMem_key (m : Memory) : (s.setMem m).key = s.key := rfl
@[simp] theorem State.setMem_op (m : Memory) : (s.setMem m).op = s.op := rfl
@[simp] theorem State.setMem_draw (m : Memory) : (s.setMem m).draw = s.draw := rfl
@[simp] theorem State.setMem_fault (m : Memory) : (s.setMem m).fault = s.fault := rfl
@[simp] theorem State.setMem_fcause (m : Memory) : (s.setMem m).fcause = s.fcause := rfl
@[simp] theorem State.setMem_fpc (m : Memory) : (s.setMem m).fpc = s.fpc := rfl
@[simp] theorem State.setMem_fop (m : Memory) : (s.setMem m).fop = s.fop := rfl
@[simp] theorem State.setMem_wait (m : Memory) : (s.setMem m).wait = s.wait := rfl
@[simp] theorem State.setMem_ksnap (m : Memory) : (s.setMem m).ksnap = s.ksnap := rfl
@[simp] theorem State.setMem_cfg (m : Memory) : (s.setMem m).cfg = s.cfg := rfl
@[simp] theorem State.setMem_draws (m : Memory) : (s.setMem m).draws = s.draws := rfl
@[simp] theorem State.setMem_events (m : Memory) : (s.setMem m).events = s.events := rfl
@[simp] theorem State.setMem_getV (m : Memory) (r : Reg) : (s.setMem m).getV r = s.getV r := rfl
@[simp] theorem State.setMem_slot (m : Memory) (j : Fin 16) : (s.setMem m).slot j = s.slot j := rfl
@[simp] theorem State.setMem_cell (m : Memory) (p : Fin fbSize) : (s.setMem m).cell p = s.cell p := rfl
@[simp] theorem State.setMem_pressed (m : Memory) (j : Key) : (s.setMem m).pressed j = s.pressed j := rfl
@[simp] theorem State.setMem_snapped (m : Memory) (j : Key) : (s.setMem m).snapped j = s.snapped j := rfl

/-! ### State.setKey -/

@[simp] theorem State.setKey_mem (k : Key) (b : Bool) : (s.setKey k b).mem = s.mem := rfl
@[simp] theorem State.setKey_v (k : Key) (b : Bool) : (s.setKey k b).v = s.v := rfl
@[simp] theorem State.setKey_index (k : Key) (b : Bool) : (s.setKey k b).index = s.index := rfl
@[simp] theorem State.setKey_pc (k : Key) (b : Bool) : (s.setKey k b).pc = s.pc := rfl
@[simp] theorem State.setKey_stack (k : Key) (b : Bool) : (s.setKey k b).stack = s.stack := rfl
@[simp] theorem State.setKey_sp (k : Key) (b : Bool) : (s.setKey k b).sp = s.sp := rfl
@[simp] theorem State.setKey_dt (k : Key) (b : Bool) : (s.setKey k b).dt = s.dt := rfl
@[simp] theorem State.setKey_st (k : Key) (b : Bool) : (s.setKey k b).st = s.st := rfl
@[simp] theorem State.setKey_fb (k : Key) (b : Bool) : (s.setKey k b).fb = s.fb := rfl
@[simp] theorem State.setKey_key (k : Key) (b : Bool) : (s.setKey k b).key = s.key.set k.val b k.isLt := rfl
@[simp] theorem State.setKey_op (k : Key) (b : Bool) : (s.setKey k b).op = s.op := rfl
@[simp] theorem State.setKey_draw (k : Key) (b : Bool) : (s.setKey k b).draw = s.draw := rfl
@[simp] theorem State.setKey_fault (k : Key) (b : Bool) : (s.setKey k b).fault = s.fault := rfl
@[simp] theorem State.setKey_fcause (k : Key) (b : Bool) : (s.setKey k b).fcause = s.fcause := rfl
@[simp] theorem State.setKey_fpc (k : Key) (b : Bool) : (s.setKey k b).fpc = s.fpc := rfl
@[simp] theorem State.setKey_fop (k : Key) (b : Bool) : (s.setKey k b).fop = s.fop := rfl
@[simp] theorem State.setKey_wait (k : Key) (b : Bool) : (s.setKey k b).wait = s.wait := rfl
@[simp] theorem State.setKey_ksnap (k : Key) (b : Bool) : (s.setKey k b).ksnap = s.ksnap := rfl
@[simp] theorem State.setKey_cfg (k : Key) (b : Bool) : (s.setKey k b).cfg = s.cfg := rfl
@[simp] theorem State.setKey_draws (k : Key) (b : Bool) : (s.setKey k b).draws = s.draws := rfl
@[simp] theorem State.setKey_events (k : Key) (b : Bool) : (s.setKey k b).events = s.events := rfl
@[simp] theorem State.setKey_getV (k : Key) (b : Bool) (r : Reg) : (s.setKey k b).getV r = s.getV r := rfl
@[simp] theorem State.setKey_slot (k : Key) (b : Bool) (j : Fin 16) : (s.setKey k b).slot j = s.slot j := rfl
@[simp] theorem State.setKey_cell (k : Key) (b : Bool) (p : Fin fbSize) : (s.setKey k b).cell p = s.cell p := rfl
@[simp] theorem State.setKey_snapped (k : Key) (b : Bool) (j : Key) : (s.setKey k b).snapped j = s.snapped j := rfl
@[simp] theorem State.setKey_peek (k : Key) (b : Bool) (a : Nat) : (s.setKey k b).peek a = s.peek a := rfl

/-! ### State.advance -/

@[simp] theorem State.advance_mem : (s.advance).mem = s.mem := rfl
@[simp] theorem State.advance_v : (s.advance).v = s.v := rfl
@[simp] theorem State.advance_index : (s.advance).index = s.index := rfl
@[simp] theorem State.advance_pc : (s.advance).pc = s.pc + 2 := rfl
@[simp] theorem State.advance_stack : (s.advance).stack = s.stack := rfl
@[simp] theorem State.advance_sp : (s.advance).sp = s.sp := rfl
@[simp] theorem State.advance_dt : (s.advance).dt = s.dt := rfl
@[simp] theorem State.advance_st : (s.advance).st = s.st := rfl
@[simp] theorem State.advance_fb : (s.advance).fb = s.fb := rfl
@[simp] theorem State.advance_key : (s.advance).key = s.key := rfl
@[simp] theorem State.advance_op : (s.advance).op = s.op := rfl
@[simp] theorem State.advance_draw : (s.advance).draw = s.draw := rfl
@[simp] theorem State.advance_fault : (s.advance).fault = s.fault := rfl
@[simp] theorem State.advance_fcause : (s.advance).fcause = s.fcause := rfl
@[simp] theorem State.advance_fpc : (s.advance).fpc = s.fpc := rfl
@[simp] theorem State.advance_fop : (s.advance).fop = s.fop := rfl
@[simp] theorem State.advance_wait : (s.advance).wait = s.wait := rfl
@[simp] theorem State.advance_ksnap : (s.advance).ksnap = s.ksnap := rfl
@[simp] theorem State.advance_cfg : (s.advance).cfg = s.cfg := rfl
@[simp] theorem State.advance_draws : (s.advance).draws = s.draws := rfl
@[simp] theorem State.advance_events : (s.advance).events = s.events := rfl
@[simp] theorem State.advance_getV (r : Reg) : (s.advance).getV r = s.getV r := rfl
@[simp] theorem State.advance_slot (j : Fin 16) : (s.advance).slot j = s.slot j := rfl
@[simp] theorem State.advance_cell (p : Fin fbSize) : (s.advance).cell p = s.cell p := rfl
@[simp] theorem State.advance_pressed (j : Key) : (s.advance).pressed j = s.pressed j := rfl
@[simp] theorem State.advance_snapped (j : Key) : (s.advance).snapped j = s.snapped j := rfl
@[simp] theorem State.advance_peek (a : Nat) : (s.advance).peek a = s.peek a := rfl

/-! ### State.skipIf -/

@[simp] theorem State.skipIf_mem (c : Bool) : (s.skipIf c).mem = s.mem := rfl
@[simp] theorem State.skipIf_v (c : Bool) : (s.skipIf c).v = s.v := rfl
@[simp] theorem State.skipIf_index (c : Bool) : (s.skipIf c).index = s.index := rfl
@[simp] theorem State.skipIf_pc (c : Bool) : (s.skipIf c).pc = if c then s.pc + 4 else s.pc + 2 := rfl
@[simp] theorem State.skipIf_stack (c : Bool) : (s.skipIf c).stack = s.stack := rfl
@[simp] theorem State.skipIf_sp (c : Bool) : (s.skipIf c).sp = s.sp := rfl
@[simp] theorem State.skipIf_dt (c : Bool) : (s.skipIf c).dt = s.dt := rfl
@[simp] theorem State.skipIf_st (c : Bool) : (s.skipIf c).st = s.st := rfl
@[simp] theorem State.skipIf_fb (c : Bool) : (s.skipIf c).fb = s.fb := rfl
@[simp] theorem State.skipIf_key (c : Bool) : (s.skipIf c).key = s.key := rfl
@[simp] theorem State.skipIf_op (c : Bool) : (s.skipIf c).op = s.op := rfl
@[simp] theorem State.skipIf_draw (c : Bool) : (s.skipIf c).draw = s.draw := rfl
@[simp] theorem State.skipIf_fault (c : Bool) : (s.skipIf c).fault = s.fault := rfl
@[simp] theorem State.skipIf_fcause (c : Bool) : (s.skipIf c).fcause = s.fcause := rfl
@[simp] theorem State.skipIf_fpc (c : Bool) : (s.skipIf c).fpc = s.fpc := rfl
@[simp] theorem State.skipIf_fop (c : Bool) : (s.skipIf c).fop = s.fop := rfl
@[simp] theorem State.skipIf_wait (c : Bool) : (s.skipIf c).wait = s.wait := rfl
@[simp] theorem State.skipIf_ksnap (c : Bool) : (s.skipIf c).ksnap = s.ksnap := rfl
@[simp] theorem State.skipIf_cfg (c : Bool) : (s.skipIf c).cfg = s.cfg := rfl
@[simp] theorem State.skipIf_draws (c : Bool) : (s.skipIf c).draws = s.draws := rfl
@[simp] theorem State.skipIf_events (c : Bool) : (s.skipIf c).events = s.events := rfl
@[simp] theorem State.skipIf_getV (c : Bool) (r : Reg) : (s.skipIf c).getV r = s.getV r := rfl
@[simp] theorem State.skipIf_slot (c : Bool) (j : Fin 16) : (s.skipIf c).slot j = s.slot j := rfl
@[simp] theorem State.skipIf_cell (c : Bool) (p : Fin fbSize) : (s.skipIf c).cell p = s.cell p := rfl
@[simp] theorem State.skipIf_pressed (c : Bool) (j : Key) : (s.skipIf c).pressed j = s.pressed j := rfl
@[simp] theorem State.skipIf_snapped (c : Bool) (j : Key) : (s.skipIf c).snapped j = s.snapped j := rfl
@[simp] theorem State.skipIf_peek (c : Bool) (a : Nat) : (s.skipIf c).peek a = s.peek a := rfl

/-! ### State.raise -/

@[simp] theorem State.raise_mem (c : Cause) : (s.raise c).mem = s.mem := rfl
@[simp] theorem State.raise_v (c : Cause) : (s.raise c).v = s.v := rfl
@[simp] theorem State.raise_index (c : Cause) : (s.raise c).index = s.index := rfl
@[simp] theorem State.raise_pc (c : Cause) : (s.raise c).pc = s.pc := rfl
@[simp] theorem State.raise_stack (c : Cause) : (s.raise c).stack = s.stack := rfl
@[simp] theorem State.raise_sp (c : Cause) : (s.raise c).sp = s.sp := rfl
@[simp] theorem State.raise_dt (c : Cause) : (s.raise c).dt = s.dt := rfl
@[simp] theorem State.raise_st (c : Cause) : (s.raise c).st = s.st := rfl
@[simp] theorem State.raise_fb (c : Cause) : (s.raise c).fb = s.fb := rfl
@[simp] theorem State.raise_key (c : Cause) : (s.raise c).key = s.key := rfl
@[simp] theorem State.raise_op (c : Cause) : (s.raise c).op = s.op := rfl
@[simp] theorem State.raise_draw (c : Cause) : (s.raise c).draw = s.draw := rfl
@[simp] theorem State.raise_fault (c : Cause) : (s.raise c).fault = true := rfl
@[simp] theorem State.raise_fcause (c : Cause) : (s.raise c).fcause = some c := rfl
@[simp] theorem State.raise_fpc (c : Cause) : (s.raise c).fpc = s.pc := rfl
@[simp] theorem State.raise_fop (c : Cause) : (s.raise c).fop = s.op := rfl
@[simp] theorem State.raise_wait (c : Cause) : (s.raise c).wait = s.wait := rfl
@[simp] theorem State.raise_ksnap (c : Cause) : (s.raise c).ksnap = s.ksnap := rfl
@[simp] theorem State.raise_cfg (c : Cause) : (s.raise c).cfg = s.cfg := rfl
@[simp] theorem State.raise_draws (c : Cause) : (s.raise c).draws = s.draws := rfl
@[simp] theorem State.raise_events (c : Cause) : (s.raise c).events = s.events := rfl
@[simp] theorem State.raise_getV (c : Cause) (r : Reg) : (s.raise c).getV r = s.getV r := rfl
@[simp] theorem State.raise_slot (c : Cause) (j : Fin 16) : (s.raise c).slot j = s.slot j := rfl
@[simp] theorem State.raise_cell (c : Cause) (p : Fin fbSize) : (s.raise c).cell p = s.cell p := rfl
@[simp] theorem State.raise_pressed (c : Cause) (j : Key) : (s.raise c).pressed j = s.pressed j := rfl
@[simp] theorem State.raise_snapped (c : Cause) (j : Key) : (s.raise c).snapped j = s.snapped j := rfl
@[simp] theorem State.raise_peek (c : Cause) (a : Nat) : (s.raise c).peek a = s.peek a := rfl

/-! ### State.emit -/

@[simp] theorem State.emit_mem (e : Event) : (s.emit e).mem = s.mem := rfl
@[simp] theorem State.emit_v (e : Event) : (s.emit e).v = s.v := rfl
@[simp] theorem State.emit_index (e : Event) : (s.emit e).index = s.index := rfl
@[simp] theorem State.emit_pc (e : Event) : (s.emit e).pc = s.pc := rfl
@[simp] theorem State.emit_stack (e : Event) : (s.emit e).stack = s.stack := rfl
@[simp] theorem State.emit_sp (e : Event) : (s.emit e).sp = s.sp := rfl
@[simp] theorem State.emit_dt (e : Event) : (s.emit e).dt = s.dt := rfl
@[simp] theorem State.emit_st (e : Event) : (s.emit e).st = s.st := rfl
@[simp] theorem State.emit_fb (e : Event) : (s.emit e).fb = s.fb := rfl
@[simp] theorem State.emit_key (e : Event) : (s.emit e).key = s.key := rfl
@[simp] theorem State.emit_op (e : Event) : (s.emit e).op = s.op := rfl
@[simp] theorem State.emit_draw (e : Event) : (s.emit e).draw = s.draw := rfl
@[simp] theorem State.emit_fault (e : Event) : (s.emit e).fault = s.fault := rfl
@[simp] theorem State.emit_fcause (e : Event) : (s.emit e).fcause = s.fcause := rfl
@[simp] theorem State.emit_fpc (e : Event) : (s.emit e).fpc = s.fpc := rfl
@[simp] theorem State.emit_fop (e : Event) : (s.emit e).fop = s.fop := rfl
@[simp] theorem State.emit_wait (e : Event) : (s.emit e).wait = s.wait := rfl
@[simp] theorem State.emit_ksnap (e : Event) : (s.emit e).ksnap = s.ksnap := rfl
@[simp] theorem State.emit_cfg (e : Event) : (s.emit e).cfg = s.cfg := rfl
@[simp] theorem State.emit_draws (e : Event) : (s.emit e).draws = s.draws := rfl
@[simp] theorem State.emit_events (e : Event) : (s.emit e).events = s.events ++ [e] := rfl
@[simp] theorem State.emit_getV (e : Event) (r : Reg) : (s.emit e).getV r = s.getV r := rfl
@[simp] theorem State.emit_slot (e : Event) (j : Fin 16) : (s.emit e).slot j = s.slot j := rfl
@[simp] theorem State.emit_cell (e : Event) (p : Fin fbSize) : (s.emit e).cell p = s.cell p := rfl
@[simp] theorem State.emit_pressed (e : Event) (j : Key) : (s.emit e).pressed j = s.pressed j := rfl
@[simp] theorem State.emit_snapped (e : Event) (j : Key) : (s.emit e).snapped j = s.snapped j := rfl
@[simp] theorem State.emit_peek (e : Event) (a : Nat) : (s.emit e).peek a = s.peek a := rfl

/-! ### State.countDraw -/

@[simp] theorem State.countDraw_mem : (s.countDraw).mem = s.mem := rfl
@[simp] theorem State.countDraw_v : (s.countDraw).v = s.v := rfl
@[simp] theorem State.countDraw_index : (s.countDraw).index = s.index := rfl
@[simp] theorem State.countDraw_pc : (s.countDraw).pc = s.pc := rfl
@[simp] theorem State.countDraw_stack : (s.countDraw).stack = s.stack := rfl
@[simp] theorem State.countDraw_sp : (s.countDraw).sp = s.sp := rfl
@[simp] theorem State.countDraw_dt : (s.countDraw).dt = s.dt := rfl
@[simp] theorem State.countDraw_st : (s.countDraw).st = s.st := rfl
@[simp] theorem State.countDraw_fb : (s.countDraw).fb = s.fb := rfl
@[simp] theorem State.countDraw_key : (s.countDraw).key = s.key := rfl
@[simp] theorem State.countDraw_op : (s.countDraw).op = s.op := rfl
@[simp] theorem State.countDraw_draw : (s.countDraw).draw = s.draw := rfl
@[simp] theorem State.countDraw_fault : (s.countDraw).fault = s.fault := rfl
@[simp] theorem State.countDraw_fcause : (s.countDraw).fcause = s.fcause := rfl
@[simp] theorem State.countDraw_fpc : (s.countDraw).fpc = s.fpc := rfl
@[simp] theorem State.countDraw_fop : (s.countDraw).fop = s.fop := rfl
@[simp] theorem State.countDraw_wait : (s.countDraw).wait = s.wait := rfl
@[simp] theorem State.countDraw_ksnap : (s.countDraw).ksnap = s.ksnap := rfl
@[simp] theorem State.countDraw_cfg : (s.countDraw).cfg = s.cfg := rfl
@[simp] theorem State.countDraw_draws : (s.countDraw).draws = s.draws + 1 := rfl
@[simp] theorem State.countDraw_events : (s.countDraw).events = s.events := rfl
@[simp] theorem State.countDraw_getV (r : Reg) : (s.countDraw).getV r = s.getV r := rfl
@[simp] theorem State.countDraw_slot (j : Fin 16) : (s.countDraw).slot j = s.slot j := rfl
@[simp] theorem State.countDraw_cell (p : Fin fbSize) : (s.countDraw).cell p = s.cell p := rfl
@[simp] theorem State.countDraw_pressed (j : Key) : (s.countDraw).pressed j = s.pressed j := rfl
@[simp] theorem State.countDraw_snapped (j : Key) : (s.countDraw).snapped j = s.snapped j := rfl
@[simp] theorem State.countDraw_peek (a : Nat) : (s.countDraw).peek a = s.peek a := rfl

/-! ### State.decodeError -/

@[simp] theorem State.decodeError_mem (w : Word) : (s.decodeError w).mem = s.mem := rfl
@[simp] theorem State.decodeError_v (w : Word) : (s.decodeError w).v = s.v := rfl
@[simp] theorem State.decodeError_index (w : Word) : (s.decodeError w).index = s.index := rfl
@[simp] theorem State.decodeError_pc (w : Word) : (s.decodeError w).pc = s.pc + 2 := rfl
@[simp] theorem State.decodeError_stack (w : Word) : (s.decodeError w).stack = s.stack := rfl
@[simp] theorem State.decodeError_sp (w : Word) : (s.decodeError w).sp = s.sp := rfl
@[simp] theorem State.decodeError_dt (w : Word) : (s.decodeError w).dt = s.dt := rfl
@[simp] theorem State.decodeError_st (w : Word) : (s.decodeError w).st = s.st := rfl
@[simp] theorem State.decodeError_fb (w : Word) : (s.decodeError w).fb = s.fb := rfl
@[simp] theorem State.decodeError_key (w : Word) : (s.decodeError w).key = s.key := rfl
@[simp] theorem State.decodeError_op (w : Word) : (s.decodeError w).op = s.op := rfl
@[simp] theorem State.decodeError_draw (w : Word) : (s.decodeError w).draw = s.draw := rfl
@[simp] theorem State.decodeError_fault (w : Word) : (s.decodeError w).fault = s.fault := rfl
@[simp] theorem State.decodeError_fcause (w : Word) : (s.decodeError w).fcause = s.fcause := rfl
@[simp] theorem State.decodeError_fpc (w : Word) : (s.decodeError w).fpc = s.fpc := rfl
@[simp] theorem State.decodeError_fop (w : Word) : (s.decodeError w).fop = s.fop := rfl
@[simp] theorem State.decodeError_wait (w : Word) : (s.decodeError w).wait = false := rfl
@[simp] theorem State.decodeError_ksnap (w : Word) : (s.decodeError w).ksnap = s.ksnap := rfl
@[simp] theorem State.decodeError_cfg (w : Word) : (s.decodeError w).cfg = s.cfg := rfl
@[simp] theorem State.decodeError_draws (w : Word) : (s.decodeError w).draws = s.draws := rfl
@[simp] theorem State.decodeError_events (w : Word) : (s.decodeError w).events = s.events ++ [Event.decodeError s.pc w] := rfl
@[simp] theorem State.decodeError_getV (w : Word) (r : Reg) : (s.decodeError w).getV r = s.getV r := rfl
@[simp] theorem State.decodeError_slot (w : Word) (j : Fin 16) : (s.decodeError w).slot j = s.slot j := rfl
@[simp] theorem State.decodeError_cell (w : Word) (p : Fin fbSize) : (s.decodeError w).cell p = s.cell p := rfl
@[simp] theorem State.decodeError_pressed (w : Word) (j : Key) : (s.decodeError w).pressed j = s.pressed j := rfl
@[simp] theorem State.decodeError_snapped (w : Word) (j : Key) : (s.decodeError w).snapped j = s.snapped j := rfl
@[simp] theorem State.decodeError_peek (w : Word) (a : Nat) : (s.decodeError w).peek a = s.peek a := rfl

/-! ### The readers of the field an update writes -/

@[simp] theorem State.getV_setV (x : Reg) (b : Byte) (r : Reg) :
    (s.setV x b).getV r = if r = x then b else s.getV r := by
  simp only [State.getV, State.setV, Vector.getElem_set, Fin.ext_iff, eq_comm]

@[simp] theorem State.getV_setVs (v : Vector Byte 16) (r : Reg) : (s.setVs v).getV r = v[r.val] := rfl

@[simp] theorem State.pressed_setKey (k : Key) (b : Bool) (j : Key) :
    (s.setKey k b).pressed j = if j = k then b else s.pressed j := by
  simp only [State.pressed, State.setKey, Vector.getElem_set, Fin.ext_iff, eq_comm]

@[simp] theorem State.snapped_snapKeys (j : Key) : s.snapKeys.snapped j = s.pressed j := rfl

@[simp] theorem State.cell_setFb (fb : Framebuffer) (p : Fin fbSize) : (s.setFb fb).cell p = fb[p.val] := rfl

@[simp] theorem State.peek_setMem (m : Memory) (a : Nat) : (s.setMem m).peek a = Memory.read s.cfg.font m a := rfl

/-- The register file after bytes were written from V[k] on (42_index_memory R145). -/
theorem getElem_loadRegsFrom (bytes : List Byte) (v : Vector Byte 16) (k r : Nat) (hr : r < 16) :
    (loadRegsFrom v k bytes)[r] = if k ≤ r ∧ r < k + bytes.length then bytes.getD (r - k) 0 else v[r] := by
  induction bytes generalizing v k with
  | nil => rw [if_neg (by simp)]; rfl
  | cons b bs ih =>
    rw [loadRegsFrom, ih]
    rcases Nat.lt_trichotomy r k with h | h | h
    · rw [if_neg (by omega), if_neg (by omega)]
      split
      · exact Vector.getElem_set_ne _ _ (by omega)
      · rfl
    · subst h
      rw [if_neg (by omega), if_pos (by simp), dif_pos hr]
      simp
    · obtain ⟨d, rfl⟩ : ∃ d, r = k + 1 + d := ⟨r - (k + 1), by omega⟩
      by_cases hd : d < bs.length
      · rw [if_pos (by omega), if_pos (by simp; omega)]
        rw [show k + 1 + d - k = d + 1 by omega, show k + 1 + d - (k + 1) = d by omega]
        rfl
      · rw [if_neg (by omega), if_neg (by simp; omega)]
        split
        · exact Vector.getElem_set_ne _ _ (by omega)
        · rfl

/-- The register file after V[0..X] was loaded (42_index_memory R145). -/
@[simp] theorem State.getElem_loadRegs (bytes : List Byte) (r : Reg) :
    (s.loadRegs bytes)[r.val] = if r.val < bytes.length then bytes.getD r.val 0 else s.getV r := by
  simp [State.loadRegs, getElem_loadRegsFrom, State.getV]

/-- The register file after a write of V[X] alone. -/
@[simp] theorem State.getV_writeReg (x : Reg) (b : Byte) (r : Reg) :
    (s.writeReg x b).getV r = if r = x then b else s.getV r := by
  simp [State.writeReg]

/-- The register file after a flag and a result: for X = F the result stands (00_scope R11). -/
@[simp] theorem State.getV_writeFlagged (x : Reg) (flag b : Byte) (r : Reg) :
    (s.writeFlagged x flag b).getV r = if r = x then b else if r = vf then flag else s.getV r := by
  simp [State.writeFlagged]

/-- A write of V[X] alone changes the registers and PC only. -/
theorem State.writeReg_frame (x : Reg) (b : Byte) :
    s.writeReg x b = { s with v := (s.writeReg x b).v, pc := s.pc + 2 } := rfl

/-- A flag and a result change the registers and PC only. -/
theorem State.writeFlagged_frame (x : Reg) (flag b : Byte) :
    s.writeFlagged x flag b = { s with v := (s.writeFlagged x flag b).v, pc := s.pc + 2 } := rfl

end Sys2Proof.Machine
end

