-- ==== Sys2Proof/Laws/Ops.lean ====
section
/-! SUPPORT. One lemma per shared operation that says everything it can do. -/

namespace Sys2Proof.Machine

variable {s t : State}

/-- What an instruction with a check answers: its effect, or fault entry (60_exceptions R201). -/
theorem State.orRaise_next {r : Except Cause State} :
    s.orRaise r = .next t ↔ r = .ok t ∨ ∃ c, r = .error c ∧ t = s.raise c := by
  cases r with
  | ok u => simp [State.orRaise]
  | error c => simp [State.orRaise, eq_comm]

/-- A push below depth 16 (40_control R92, R99). -/
theorem State.push_ok (w : Word) (h : s.sp.val < 16) :
    s.push w = .ok { s with stack := s.stack.set s.sp.val w h, sp := ⟨s.sp.val + 1, by omega⟩ } := by
  simp [State.push, h]

/-- A push at depth 16 (40_control R92, R99). -/
theorem State.push_full (w : Word) (h : s.sp = 16) : s.push w = .error .stackOverflow := by
  simp [State.push, h]

/-- A pop of a stack that is not empty (40_control R90, R99). -/
theorem State.pop_ok (h : 0 < s.sp.val) :
    s.pop = .ok (s.stack[s.sp.val - 1]'(by omega), { s with sp := ⟨s.sp.val - 1, by omega⟩ }) := by
  simp [State.pop, h]

/-- A pop of an empty stack (40_control R90, R99). -/
theorem State.pop_empty (h : s.sp = 0) : s.pop = .error .stackUnderflow := by
  simp [State.pop, h]

/-- The whole range of an access lies at or below 0xFFF (20_memory R52). -/
theorem rangeOk_iff {a n : Nat} : rangeOk a n = true ↔ n = 0 ∨ a + n ≤ memSize := by
  simp [rangeOk]

/-- A read of a range: every byte in order, or DATA_RANGE (20_memory R52). -/
theorem State.load_cases (s : State) (a n : Nat) :
    (rangeOk a n = true ∧ s.load a n = .ok ((List.range n).map (fun k => s.peek (a + k)))) ∨
    (rangeOk a n = false ∧ s.load a n = .error .dataRange) := by
  cases h : rangeOk a n <;> simp [State.load, h]

/-- A store to a range: the memory written in order and nothing else changed, or DATA_RANGE (20_memory R52). -/
theorem State.store_cases (s : State) (a : Nat) (bs : List Byte) :
    (rangeOk a bs.length = true ∧ s.store a bs = .ok (s.setMem (Memory.writeList s.cfg.font s.mem a bs))) ∨
    (rangeOk a bs.length = false ∧ s.store a bs = .error .dataRange) := by
  cases h : rangeOk a bs.length <;> simp [State.store, h]

/-- What a store leaves at an address: the byte stored there, or what was there before. -/
theorem State.peek_of_store {a : Nat} {bs : List Byte} (h : s.store a bs = .ok t) (b : Nat) :
    t.peek b = if a ≤ b ∧ b < a + bs.length then bs.getD (b - a) 0 else s.peek b := by
  rcases s.store_cases a bs with ⟨-, h'⟩ | ⟨-, h'⟩
  · rw [h'] at h
    cases h
    exact Memory.read_writeList _ bs s.mem a b
  · rw [h'] at h
    cases h

/-- A store keeps the canonical form of memory. -/
theorem State.wf_of_store {a : Nat} {bs : List Byte} (h : s.store a bs = .ok t)
    (hm : Memory.wf s.cfg.font s.mem = true) : Memory.wf t.cfg.font t.mem = true := by
  rcases s.store_cases a bs with ⟨hr, h'⟩ | ⟨-, h'⟩
  · rw [h'] at h
    cases h
    rcases rangeOk_iff.1 hr with h0 | h0
    · rw [List.eq_nil_of_length_eq_zero h0]
      exact hm
    · exact Memory.wf_writeList _ hm h0
  · rw [h'] at h
    cases h

/-- A fetch: FETCH_RANGE above 0xFFE, else the big-endian word (20_memory R53, R54). -/
theorem State.fetchWord_cases (s : State) :
    (s.pc.toNat ≤ 0xFFE ∧ s.fetchWord = .ok (wordOfBytes (s.peek s.pc.toNat) (s.peek (s.pc.toNat + 1)))) ∨
    (0xFFE < s.pc.toNat ∧ s.fetchWord = .error .fetchRange) := by
  by_cases h : s.pc.toNat > 0xFFE
  · exact .inr ⟨h, by simp [State.fetchWord, h]⟩
  · exact .inl ⟨by omega, by simp [State.fetchWord, h]⟩

/-- The drawn key is one of the qualifying keys (60_exceptions R223). -/
theorem State.drawKey_mem (s : State) (k : Key) (ks : List Key) : s.drawKey k ks ∈ k :: ks :=
  List.getElem_mem _

/-- The key a byte names (44_keypad_timers R180). -/
theorem keyOf_eq_some {b : Byte} {k : Key} : keyOf b = some k ↔ b.toNat = k.val := by
  constructor
  · intro h
    simp only [keyOf] at h
    split at h
    · cases h; rfl
    · cases h
  · intro h
    have hb : b.toNat < 16 := h ▸ k.isLt
    rw [keyOf, dif_pos hb]
    exact congrArg some (Fin.ext h)

/-- A byte above 0xF names no key (44_keypad_timers R180). -/
theorem keyOf_eq_none {b : Byte} : keyOf b = none ↔ 0xF < b.toNat := by
  simp only [keyOf]
  split <;> simp <;> omega

/-- Every key is in the list of keys. -/
theorem mem_allKeys (k : Key) : k ∈ allKeys := by
  revert k; decide

/-- The keys down (44_keypad_timers R183). -/
theorem State.mem_keysDown {k : Key} : k ∈ s.keysDown ↔ s.pressed k = true := by
  simp [State.keysDown, mem_allKeys]

/-- The keys newly down (44_keypad_timers R183). -/
theorem State.mem_keysNewlyDown {k : Key} : k ∈ s.keysNewlyDown ↔ s.pressed k = true ∧ s.snapped k = false := by
  simp [State.keysNewlyDown, mem_allKeys]

/-- One set pixel outside the framebuffer is ignored (43_display R162). -/
theorem drawCell_outside (d : Drawing) {p : Nat} (h : fbSize ≤ p) : drawCell d p = d := by
  simp [drawCell, Nat.not_lt.2 h]

/-- One set pixel inside the framebuffer: a collision when the cell was set, and the cell flipped (43_display R161). -/
theorem drawCell_inside (d : Drawing) {p : Nat} (h : p < fbSize) :
    drawCell d p = (d.1.set p (!d.1[p]) h, d.2 || d.1[p]) := by
  simp [drawCell, h]

/-- FX55 stores X + 1 bytes (42_index_memory R144). -/
theorem State.regsUpTo_length (s : State) (x : Reg) : (s.regsUpTo x).length = x.val + 1 := by
  simp [State.regsUpTo]

/-- The k-th byte FX55 stores is V[k] (42_index_memory R144). -/
theorem State.regsUpTo_getD (s : State) {x k : Reg} (h : k ≤ x) : (s.regsUpTo x).getD k.val 0 = s.getV k := by
  have : k.val < x.val + 1 := by have := Fin.le_def.1 h; omega
  simp [State.regsUpTo, List.getD_eq_getElem?_getD, this, State.getV]

end Sys2Proof.Machine
end

