-- ==== Sys2Proof/Laws/PerInstr.lean ====
section
/-! SUPPORT. Statements made once per instruction: the word of each instruction lies in its row of the opcode table
(spec/30_encoding.md R72). -/

namespace Sys2Proof.Laws.EncodedInRow

/-- The instruction's word, under its row's mask, is its row's match, and that row is one of the table's. -/
def Statement (i : Instr) : Prop := encode i &&& i.row.mask = i.row.value ∧ i.row ∈ opcodeTable

theorem xnn_F000 (f : BitVec 4) (x : Reg) (nn : Byte) (value : Word) (h : value.toNat = f.toNat * 4096) :
    encodeXNN f x nn &&& 0xF000#16 = value := by
  apply BitVec.eq_of_toNat_eq
  rw [and_mask_F000, encodeXNN_toNat]; omega

theorem nnn_F000 (f : BitVec 4) (nnn : Addr12) (value : Word) (h : value.toNat = f.toNat * 4096) :
    encodeNNN f nnn &&& 0xF000#16 = value := by
  apply BitVec.eq_of_toNat_eq
  rw [and_mask_F000, encodeNNN_toNat]; omega

theorem xyn_F000 (f : BitVec 4) (x y : Reg) (n : Fin 16) (value : Word) (h : value.toNat = f.toNat * 4096) :
    encodeXYN f x y n &&& 0xF000#16 = value := by
  apply BitVec.eq_of_toNat_eq
  rw [and_mask_F000, encodeXYN_toNat]; omega

theorem xyn_F00F (f : BitVec 4) (x y : Reg) (n : Fin 16) (value : Word) (h : value.toNat = f.toNat * 4096 + n.val) :
    encodeXYN f x y n &&& 0xF00F#16 = value := by
  apply BitVec.eq_of_toNat_eq
  rw [and_mask_F00F, encodeXYN_toNat]; omega

theorem xnn_F0FF (f : BitVec 4) (x : Reg) (nn : Byte) (value : Word) (h : value.toNat = f.toNat * 4096 + nn.toNat) :
    encodeXNN f x nn &&& 0xF0FF#16 = value := by
  apply BitVec.eq_of_toNat_eq
  rw [and_mask_F0FF, encodeXNN_toNat]; omega

theorem row_mem (i : Instr) : i.row ∈ opcodeTable := by
  cases i <;> simp [opcodeTable, rowSamples, Instr.row]

theorem cls : Statement (.cls) :=
  ⟨and_mask_FFFF _, row_mem _⟩

theorem ret : Statement (.ret) :=
  ⟨and_mask_FFFF _, row_mem _⟩

theorem jp (nnn : Addr12) : Statement (.jp nnn) :=
  ⟨nnn_F000 _ _ _ rfl, row_mem _⟩

theorem call (nnn : Addr12) : Statement (.call nnn) :=
  ⟨nnn_F000 _ _ _ rfl, row_mem _⟩

theorem seImm (x : Reg) (nn : Byte) : Statement (.seImm x nn) :=
  ⟨xnn_F000 _ _ _ _ rfl, row_mem _⟩

theorem sneImm (x : Reg) (nn : Byte) : Statement (.sneImm x nn) :=
  ⟨xnn_F000 _ _ _ _ rfl, row_mem _⟩

theorem seReg (x : Reg) (y : Reg) : Statement (.seReg x y) :=
  ⟨xyn_F00F _ _ _ _ _ rfl, row_mem _⟩

theorem ldImm (x : Reg) (nn : Byte) : Statement (.ldImm x nn) :=
  ⟨xnn_F000 _ _ _ _ rfl, row_mem _⟩

theorem addImm (x : Reg) (nn : Byte) : Statement (.addImm x nn) :=
  ⟨xnn_F000 _ _ _ _ rfl, row_mem _⟩

theorem ldReg (x : Reg) (y : Reg) : Statement (.ldReg x y) :=
  ⟨xyn_F00F _ _ _ _ _ rfl, row_mem _⟩

theorem orReg (x : Reg) (y : Reg) : Statement (.orReg x y) :=
  ⟨xyn_F00F _ _ _ _ _ rfl, row_mem _⟩

theorem andReg (x : Reg) (y : Reg) : Statement (.andReg x y) :=
  ⟨xyn_F00F _ _ _ _ _ rfl, row_mem _⟩

theorem xorReg (x : Reg) (y : Reg) : Statement (.xorReg x y) :=
  ⟨xyn_F00F _ _ _ _ _ rfl, row_mem _⟩

theorem addReg (x : Reg) (y : Reg) : Statement (.addReg x y) :=
  ⟨xyn_F00F _ _ _ _ _ rfl, row_mem _⟩

theorem subReg (x : Reg) (y : Reg) : Statement (.subReg x y) :=
  ⟨xyn_F00F _ _ _ _ _ rfl, row_mem _⟩

theorem shr (x : Reg) (y : Reg) : Statement (.shr x y) :=
  ⟨xyn_F00F _ _ _ _ _ rfl, row_mem _⟩

theorem subnReg (x : Reg) (y : Reg) : Statement (.subnReg x y) :=
  ⟨xyn_F00F _ _ _ _ _ rfl, row_mem _⟩

theorem shl (x : Reg) (y : Reg) : Statement (.shl x y) :=
  ⟨xyn_F00F _ _ _ _ _ rfl, row_mem _⟩

theorem sneReg (x : Reg) (y : Reg) : Statement (.sneReg x y) :=
  ⟨xyn_F00F _ _ _ _ _ rfl, row_mem _⟩

theorem ldI (nnn : Addr12) : Statement (.ldI nnn) :=
  ⟨nnn_F000 _ _ _ rfl, row_mem _⟩

theorem jpV0 (nnn : Addr12) : Statement (.jpV0 nnn) :=
  ⟨nnn_F000 _ _ _ rfl, row_mem _⟩

theorem rnd (x : Reg) (nn : Byte) : Statement (.rnd x nn) :=
  ⟨xnn_F000 _ _ _ _ rfl, row_mem _⟩

theorem drw (x : Reg) (y : Reg) (n : Fin 16) : Statement (.drw x y n) :=
  ⟨xyn_F000 _ _ _ _ _ rfl, row_mem _⟩

theorem skp (x : Reg) : Statement (.skp x) :=
  ⟨xnn_F0FF _ _ _ _ rfl, row_mem _⟩

theorem sknp (x : Reg) : Statement (.sknp x) :=
  ⟨xnn_F0FF _ _ _ _ rfl, row_mem _⟩

theorem ldVxDt (x : Reg) : Statement (.ldVxDt x) :=
  ⟨xnn_F0FF _ _ _ _ rfl, row_mem _⟩

theorem ldVxK (x : Reg) : Statement (.ldVxK x) :=
  ⟨xnn_F0FF _ _ _ _ rfl, row_mem _⟩

theorem ldDtVx (x : Reg) : Statement (.ldDtVx x) :=
  ⟨xnn_F0FF _ _ _ _ rfl, row_mem _⟩

theorem ldStVx (x : Reg) : Statement (.ldStVx x) :=
  ⟨xnn_F0FF _ _ _ _ rfl, row_mem _⟩

theorem addI (x : Reg) : Statement (.addI x) :=
  ⟨xnn_F0FF _ _ _ _ rfl, row_mem _⟩

theorem ldF (x : Reg) : Statement (.ldF x) :=
  ⟨xnn_F0FF _ _ _ _ rfl, row_mem _⟩

theorem ldB (x : Reg) : Statement (.ldB x) :=
  ⟨xnn_F0FF _ _ _ _ rfl, row_mem _⟩

theorem stRegs (x : Reg) : Statement (.stRegs x) :=
  ⟨xnn_F0FF _ _ _ _ rfl, row_mem _⟩

theorem ldRegs (x : Reg) : Statement (.ldRegs x) :=
  ⟨xnn_F0FF _ _ _ _ rfl, row_mem _⟩

end Sys2Proof.Laws.EncodedInRow
end

