-- ==== Sys2Proof/Laws/Sprite.lean ====
section
/-! SUPPORT. The sprite loop as one XOR (43_display R161, R162): the loop visits strictly rising cells, so every cell is flipped
at most once, and the collision is that some visited cell was set. -/

namespace Sys2Proof.Machine

/-- The cells of the set pixels of one row, in the order they are drawn. -/
def rowCells (x y r : Nat) (b : Byte) (cols : List Nat) : List Nat :=
  (cols.filter (fun col => b.getLsbD (7 - col))).map (spriteCell x y r)

/-- The cells of the set pixels of the rows from row `r` on, in the order they are drawn. -/
def spriteCells (x y : Nat) : Nat → List Byte → List Nat
  | _, [] => []
  | r, b :: bs => rowCells x y r b [0, 1, 2, 3, 4, 5, 6, 7] ++ spriteCells x y (r + 1) bs

theorem drawColumns_eq_foldl (x y r : Nat) (b : Byte) (cols : List Nat) (d : Drawing) :
    drawColumns x y r b cols d = (rowCells x y r b cols).foldl drawCell d := by
  induction cols generalizing d with
  | nil => rfl
  | cons c cs ih => by_cases h : b.getLsbD (7 - c) = true <;> simp [drawColumns, ih, rowCells, h]

theorem drawRows_eq_foldl (x y r : Nat) (bs : List Byte) (d : Drawing) :
    drawRows x y r bs d = (spriteCells x y r bs).foldl drawCell d := by
  induction bs generalizing r d with
  | nil => rfl
  | cons b bs ih => rw [drawRows, ih, drawColumns_eq_foldl, spriteCells, List.foldl_append]

theorem mem_rowCells {x y r q : Nat} {b : Byte} : q ∈ rowCells x y r b [0, 1, 2, 3, 4, 5, 6, 7] ↔
    ∃ col, col < 8 ∧ q = x + col + (y + r) * 64 ∧ b.getLsbD (7 - col) = true := by
  simp only [rowCells, List.mem_map, List.mem_filter, spriteCell]
  constructor
  · rintro ⟨c, ⟨hc, hb⟩, rfl⟩
    exact ⟨c, by simp at hc; omega, rfl, hb⟩
  · rintro ⟨c, hc, rfl, hb⟩
    exact ⟨c, ⟨by interval_cases c <;> simp, hb⟩, rfl⟩

theorem mem_spriteCells {x y r q : Nat} {bs : List Byte} : q ∈ spriteCells x y r bs ↔
    ∃ k col, ∃ h : k < bs.length, col < 8 ∧ q = x + col + (y + r + k) * 64 ∧ bs[k].getLsbD (7 - col) = true := by
  induction bs generalizing r with
  | nil => simp [spriteCells]
  | cons b bs ih =>
    rw [spriteCells, List.mem_append, mem_rowCells, ih]
    constructor
    · rintro (⟨c, hc, hq, hb⟩ | ⟨k, c, hk, hc, hq, hb⟩)
      · exact ⟨0, c, by simp, hc, hq, hb⟩
      · exact ⟨k + 1, c, by simpa using hk, hc, by rw [hq]; ring, hb⟩
    · rintro ⟨k, c, hk, hc, hq, hb⟩
      cases k with
      | zero => exact .inl ⟨c, hc, hq, hb⟩
      | succ k => exact .inr ⟨k, c, by simpa using hk, hc, by rw [hq]; ring, hb⟩

theorem spriteCells_rising (x y r : Nat) (bs : List Byte) : (spriteCells x y r bs).Pairwise (· < ·) := by
  induction bs generalizing r with
  | nil => simp [spriteCells]
  | cons b bs ih =>
    rw [spriteCells, List.pairwise_append]
    refine ⟨?_, ih _, ?_⟩
    · rw [rowCells, List.pairwise_map]
      refine List.Pairwise.filter _ ?_
      simp [spriteCell]
    · intro a ha c hc
      obtain ⟨ca, h1, rfl, -⟩ := mem_rowCells.1 ha
      obtain ⟨k, cc, -, h2, rfl, -⟩ := mem_spriteCells.1 hc
      omega

theorem foldl_drawCell_cell (ps : List Nat) (hn : ps.Nodup) (d : Drawing) (p : Nat) (hp : p < fbSize) :
    (ps.foldl drawCell d).1[p] = if p ∈ ps then !d.1[p] else d.1[p] := by
  induction ps generalizing d with
  | nil => simp
  | cons q qs ih =>
    obtain ⟨hq, hqs⟩ := List.nodup_cons.1 hn
    rw [List.foldl_cons, ih hqs]
    by_cases h : q < fbSize
    · rw [drawCell_inside d h]
      by_cases e : q = p
      · subst e
        simp [hq]
      · simp [e, Ne.symm e]
    · have : q ≠ p := by omega
      rw [drawCell_outside d (by omega)]
      simp [Ne.symm this]

theorem foldl_drawCell_hit (ps : List Nat) (hn : ps.Nodup) (d : Drawing) :
    (ps.foldl drawCell d).2 = true ↔ d.2 = true ∨ ∃ p, ∃ h : p < fbSize, p ∈ ps ∧ d.1[p] = true := by
  induction ps generalizing d with
  | nil => simp
  | cons q qs ih =>
    obtain ⟨hq, hqs⟩ := List.nodup_cons.1 hn
    rw [List.foldl_cons, ih hqs]
    by_cases h : q < fbSize
    · have keep (p : Nat) (hp : p < fbSize) (hm : p ∈ qs) : (drawCell d q).1[p] = d.1[p] := by
        rw [drawCell_inside d h]
        exact Vector.getElem_set_ne h hp (fun e => hq (e ▸ hm))
      have hit : (drawCell d q).2 = true ↔ d.2 = true ∨ d.1[q] = true := by simp [drawCell_inside d h]
      rw [hit]
      constructor
      · rintro ((h1 | h1) | ⟨p, hp, hm, hv⟩)
        · exact .inl h1
        · exact .inr ⟨q, h, by simp, h1⟩
        · exact .inr ⟨p, hp, by simp [hm], keep p hp hm ▸ hv⟩
      · rintro (h1 | ⟨p, hp, hm, hv⟩)
        · exact .inl (.inl h1)
        · obtain rfl | hm := List.mem_cons.1 hm
          · exact .inl (.inr hv)
          · exact .inr ⟨p, hp, hm, (keep p hp hm).trans hv⟩
    · rw [drawCell_outside d (by omega)]
      refine or_congr_right ⟨?_, ?_⟩
      · rintro ⟨p, hp, hm, hv⟩
        exact ⟨p, hp, by simp [hm], hv⟩
      · rintro ⟨p, hp, hm, hv⟩
        obtain rfl | hm := List.mem_cons.1 hm
        · exact absurd hp h
        · exact ⟨p, hp, hm, hv⟩

/-- The set pixels the loop visits are the pixels of the sprite. -/
theorem mem_spriteCells_iff_drawsPixel (s : State) (x y : Reg) (n : Fin 16) (p : Fin fbSize) :
    p.val ∈ spriteCells (s.getV x).toNat (s.getV y).toNat 0 ((List.range n.val).map (fun k => s.peek (s.base + k))) ↔
      DrawsPixel s x y n p := by
  rw [mem_spriteCells, DrawsPixel, SpritePixel]
  constructor
  · rintro ⟨k, c, hk, hc, hq, hb⟩
    exact ⟨k, c, by simpa using hk, hc, by simpa using hq, by simpa using hb⟩
  · rintro ⟨k, c, hk, hc, hq, hb⟩
    exact ⟨k, c, by simpa using hk, hc, by simpa using hq, by simpa using hb⟩

/-- The framebuffer a sprite leaves, cell by cell (43_display R162). -/
theorem drawSprite_cell (s : State) (x y : Reg) (n : Fin 16) (p : Fin fbSize) [Decidable (DrawsPixel s x y n p)] :
    (s.drawSprite x y ((List.range n.val).map (fun k => s.peek (s.base + k)))).1[p.val] =
      if DrawsPixel s x y n p then !s.cell p else s.cell p := by
  rw [State.drawSprite, drawRows_eq_foldl,
    foldl_drawCell_cell _ ((spriteCells_rising _ _ _ _).imp (fun h => Nat.ne_of_lt h)) _ _ p.isLt]
  exact if_congr (mem_spriteCells_iff_drawsPixel s x y n p) rfl rfl

/-- The collision of a sprite: some pixel lands on a set cell (43_display R161). -/
theorem drawSprite_hit (s : State) (x y : Reg) (n : Fin 16) :
    (s.drawSprite x y ((List.range n.val).map (fun k => s.peek (s.base + k)))).2 = true ↔
      ∃ p, DrawsPixel s x y n p ∧ s.cell p = true := by
  rw [State.drawSprite, drawRows_eq_foldl,
    foldl_drawCell_hit _ ((spriteCells_rising _ _ _ _).imp (fun h => Nat.ne_of_lt h))]
  constructor
  · rintro (h | ⟨p, hp, hm, hv⟩)
    · cases h
    · exact ⟨⟨p, hp⟩, (mem_spriteCells_iff_drawsPixel s x y n ⟨p, hp⟩).1 hm, hv⟩
  · rintro ⟨p, hm, hv⟩
    exact .inr ⟨p.val, p.isLt, (mem_spriteCells_iff_drawsPixel s x y n p).2 hm, hv⟩

end Sys2Proof.Machine
end

