-- ==== Sys2Proof/Laws/Step.lean ====
section
/-! SUPPORT. Inversion, said once: what `exec` and `step` may have done when they answer a next state. Later proofs split on these
and unfold no meaning. -/

namespace Sys2Proof.Machine

variable {s t : State} {i : Instr}

/-- What an instruction does when it does not take its fault (60_exceptions R201, R204): the result of its check and the state it
leaves. Instructions without a check leave what `exec` answers. -/
def OwnEffect (s t : State) : Instr → Prop
  | .call nnn => ∃ u, s.push s.pc = .ok u ∧ t = u.setPc (addrWord nnn)
  | .ret => ∃ w u, s.pop = .ok (w, u) ∧ t = u.setPc (w + 2)
  | .drw x y n => ∃ bytes, s.load s.base n.val = .ok bytes ∧
      t = (((s.setFb (s.drawSprite x y bytes).1).setV vf (flagByte (s.drawSprite x y bytes).2)).setDraw true).advance
  | .ldRegs x => ∃ bytes, s.load s.base (x.val + 1) = .ok bytes ∧
      t = ((s.setVs (s.loadRegs bytes)).setIndex (s.indexAfter x)).advance
  | .ldB x => ∃ u, s.store s.base (decimalDigits (s.getV x)) = .ok u ∧ t = u.advance
  | .stRegs x => ∃ u, s.store s.base (s.regsUpTo x) = .ok u ∧ t = (u.setIndex (s.indexAfter x)).advance
  | .skp x => ∃ k, keyOf (s.getV x) = some k ∧ t = s.skipIf (s.pressed k)
  | .sknp x => ∃ k, keyOf (s.getV x) = some k ∧ t = s.skipIf (!s.pressed k)
  | i => exec i s = .next t

/-- A push that answers: below depth 16, with the slot written (40_control R92, R99). -/
theorem State.push_eq_ok {w : Word} : s.push w = .ok t ↔
    ∃ h : s.sp.val < 16, t = { s with stack := s.stack.set s.sp.val w h, sp := ⟨s.sp.val + 1, by omega⟩ } := by
  unfold State.push
  split <;> simp_all [eq_comm]

/-- A pop that answers: above depth 0, with the slot read (40_control R90, R99). -/
theorem State.pop_eq_ok {w : Word} : s.pop = .ok (w, t) ↔
    ∃ h : 0 < s.sp.val, w = s.stack[s.sp.val - 1]'(by omega) ∧ t = { s with sp := ⟨s.sp.val - 1, by omega⟩ } := by
  unfold State.pop
  split <;> simp_all [eq_comm]

/-- A store that answers: the memory written and nothing else (20_memory R52). -/
theorem State.store_eq_ok {a : Nat} {bs : List Byte} : s.store a bs = .ok t ↔
    rangeOk a bs.length = true ∧ t = s.setMem (Memory.writeList s.cfg.font s.mem a bs) := by
  unfold State.store
  split <;> simp [*, eq_comm (a := t)]

/-- A load that answers: every byte of the range (20_memory R52). -/
theorem State.load_eq_ok {a n : Nat} {bytes : List Byte} : s.load a n = .ok bytes ↔
    rangeOk a n = true ∧ bytes = (List.range n).map (fun k => s.peek (a + k)) := by
  unfold State.load
  split <;> simp [*, eq_comm (a := bytes)]

/-- What an instruction may have done: its own effect, or its one fault taken with nothing else changed (60_exceptions R201,
R204). -/
theorem exec_cases (h : exec i s = .next t) : OwnEffect s t i ∨ ∃ c, causeOf i = some c ∧ t = s.raise c := by
  cases i
  case call nnn =>
    obtain e | ⟨c, e, rfl⟩ := State.orRaise_next.1 h
    · split at e <;> cases e
      exact .inl ⟨_, ‹_›, rfl⟩
    · unfold State.push at e
      split_ifs at e
      cases e
      exact .inr ⟨_, rfl, rfl⟩
  case ret =>
    obtain e | ⟨c, e, rfl⟩ := State.orRaise_next.1 h
    · split at e <;> cases e
      exact .inl ⟨_, _, ‹_›, rfl⟩
    · unfold State.pop at e
      split_ifs at e
      cases e
      exact .inr ⟨_, rfl, rfl⟩
  case drw | ldRegs =>
    obtain e | ⟨c, e, rfl⟩ := State.orRaise_next.1 h
    · split at e <;> cases e
      exact .inl ⟨_, ‹_›, rfl⟩
    · unfold State.load at e
      split_ifs at e
      cases e
      exact .inr ⟨_, rfl, rfl⟩
  case ldB | stRegs =>
    obtain e | ⟨c, e, rfl⟩ := State.orRaise_next.1 h
    · split at e <;> cases e
      exact .inl ⟨_, ‹_›, rfl⟩
    · unfold State.store at e
      split_ifs at e
      cases e
      exact .inr ⟨_, rfl, rfl⟩
  case skp | sknp =>
    obtain e | ⟨c, e, rfl⟩ := State.orRaise_next.1 h
    · split at e <;> cases e
      exact .inl ⟨_, ‹_›, rfl⟩
    · split at e <;> cases e
      exact .inr ⟨_, rfl, rfl⟩
  all_goals exact .inl h

/-- What FX0A may have done (44_keypad_timers R183). -/
theorem exec_ldVxK_cases {x : Reg} (h : exec (.ldVxK x) s = .next t) :
    (s.cfg.fx0aTrigger = .level ∧ (t = s ∨ ∃ k ks, s.keysDown = k :: ks ∧ t = s.takeKey x k ks)) ∨
    (s.cfg.fx0aTrigger = .edge ∧ (t = s.snapKeys ∨ t = (s.setWait true).snapKeys ∨
      ∃ k ks, s.keysNewlyDown = k :: ks ∧ t = (s.takeKey x k ks).setWait false)) := by
  simp only [exec, execLdVxK] at h
  split at h <;> cases h
  · refine .inl ⟨‹_›, ?_⟩
    unfold State.waitLevel
    split
    · exact .inl rfl
    · exact .inr ⟨_, _, ‹_›, rfl⟩
  · refine .inr ⟨‹_›, ?_⟩
    unfold State.waitEdge
    split_ifs
    · split
      · exact .inl rfl
      · exact .inr (.inr ⟨_, _, ‹_›, rfl⟩)
    · exact .inr (.inl rfl)

/-- What the step adds keeps a next state a next state (30_encoding R70). -/
theorem finishStep_next {a : Answer} : finishStep i a = .next t ↔ ∃ u, a = .next u ∧ t = u.afterExec i := by
  cases a <;> simp [finishStep, eq_comm]

/-- What a step may have done (30_encoding R70): a fetch fault, a decode error, or a decoded instruction. -/
theorem step_cases (h : step s = .next t) : s.fault = false ∧
    ((0xFFE < s.pc.toNat ∧ t = s.raise .fetchRange) ∨
     (s.pc.toNat ≤ 0xFFE ∧ ∃ w, s.fetchWord = .ok w ∧
       ((decodeWord w = none ∧ t = (s.setOp w).decodeError w) ∨
        ∃ i u, decodeWord w = some i ∧ exec i (s.setOp w) = .next u ∧ t = u.afterExec i))) := by
  unfold step State.cycle at h
  split_ifs at h with hf
  refine ⟨by simpa using hf, ?_⟩
  obtain ⟨hp, e⟩ | ⟨hp, e⟩ := s.fetchWord_cases <;> rw [e] at h
  · refine .inr ⟨hp, _, e, ?_⟩
    simp only [State.runWord] at h
    split at h
    · obtain ⟨u, hu, rfl⟩ := finishStep_next.1 h
      exact .inr ⟨_, u, ‹_›, hu, rfl⟩
    · cases h
      exact .inl ⟨‹_›, rfl⟩
  · cases h
    exact .inl ⟨hp, rfl⟩

end Sys2Proof.Machine
end

