-- ==== Sys2Proof/Tests/Slice0.lean ====
section
/-! SUPPORT. The model's own tests. Expected values come from the spec: the encodings of 30_encoding R71 and R72, and the vectors of
95_test_vectors (named in each comment). Witnesses show that the hypotheses of the statements are met. -/

namespace Sys2Proof.Tests

open Sys2Proof Sys2Proof.Machine

/-- One step of a word placed at PC. -/
def run (s : State) (w : Word) : Option State :=
  match step (s.placeWord w) with
  | .next t => some t
  | .fault _ => none
  | .refused _ => none

/-- A state that differs from reset in the bytes at an address. -/
def bytesAt (s : State) (a : Nat) (bs : List Byte) : State := s.setMem (Memory.writeList s.cfg.font s.mem a bs)

/-- The reset state with other parameters. -/
def withParams (shiftSrc : ShiftSrc) (ldstInc : LdstInc) (trigger : Fx0aTrigger) : State :=
  State.resetWith { shiftSrc := shiftSrc, ldstInc := ldstInc, fx0aTrigger := trigger, font := fontDefault }

/-- The fault record: FAULT, the code of FCAUSE, FPC, FOP. -/
def record (t : State) : Bool × Nat × Word × Word := (t.fault, causeCode t.fcause, t.fpc, t.fop)

/-- The state right after reset. -/
def r0 : State := State.reset

/-- A state that holds return addresses: depth `n`. -/
def deep (n : Fin 17) : State := { r0 with sp := n, stack := Vector.replicate 16 0x204 }

/-- A faulted state. -/
def faulted : State := { r0 with fault := true, fcause := some .keyRange, fpc := 0x200, fop := 0xE19E, dt := 3 }

/-! ## Well-formed words (30_encoding R72, R76, R77): one ill-formed word of each family that has one -/

theorem test_illFormed_family0 : wordWellFormed 0x0123 = false ∧ decodeWord 0x0123 = none := by decide
theorem test_illFormed_family0_cls_like : wordWellFormed 0x01E0 = false ∧ decodeWord 0x01E0 = none := by decide
theorem test_illFormed_family5 : wordWellFormed 0x5121 = false ∧ decodeWord 0x5121 = none := by decide
theorem test_illFormed_family8 : wordWellFormed 0x8128 = false ∧ decodeWord 0x8128 = none := by decide
theorem test_illFormed_family9 : wordWellFormed 0x9121 = false ∧ decodeWord 0x9121 = none := by decide
theorem test_illFormed_familyE : wordWellFormed 0xE19F = false ∧ decodeWord 0xE19F = none := by decide
theorem test_illFormed_familyF : wordWellFormed 0xF00B = false ∧ decodeWord 0xF00B = none := by decide
theorem test_illFormed_familyF_high : wordWellFormed 0xF075 = false ∧ decodeWord 0xF075 = none := by decide
theorem test_wellFormed_word : wordWellFormed 0x8124 = true := by decide
theorem test_truncated_bytes : decodeBytes [0x60] = .error .truncated := by decide
theorem test_unassigned_bytes : decodeBytes [0x51, 0x21] = .error (.unassigned 0x5121) := by decide
theorem test_bytes_big_endian : decodeBytes [0x6A, 0x42, 0x70] = .ok (.ldImm 0xA 0x42, [0x70]) := by decide
theorem test_table_word : decodeTableWord 16 0xD125 = some (.drw 1 2 5) := by decide

/-! ## A word of each constructor, written out bit by bit from 30_encoding R71 and R72 -/

theorem test_decode_cls : decodeWord 0b0000000011100000 = some (.cls) := by decide
theorem test_decode_ret : decodeWord 0b0000000011101110 = some (.ret) := by decide
theorem test_decode_jp : decodeWord 0b0001101010111100 = some (.jp 0xABC) := by decide
theorem test_decode_call : decodeWord 0b0010001000001000 = some (.call 0x208) := by decide
theorem test_decode_seImm : decodeWord 0b0011001100010010 = some (.seImm 3 0x12) := by decide
theorem test_decode_sneImm : decodeWord 0b0100001100010011 = some (.sneImm 3 0x13) := by decide
theorem test_decode_seReg : decodeWord 0b0101000100100000 = some (.seReg 1 2) := by decide
theorem test_decode_ldImm : decodeWord 0b0110101001000010 = some (.ldImm 0xA 0x42) := by decide
theorem test_decode_addImm : decodeWord 0b0111000011111111 = some (.addImm 0 0xFF) := by decide
theorem test_decode_ldReg : decodeWord 0b1000000100100000 = some (.ldReg 1 2) := by decide
theorem test_decode_orReg : decodeWord 0b1000000100100001 = some (.orReg 1 2) := by decide
theorem test_decode_andReg : decodeWord 0b1000000100100010 = some (.andReg 1 2) := by decide
theorem test_decode_xorReg : decodeWord 0b1000000100100011 = some (.xorReg 1 2) := by decide
theorem test_decode_addReg : decodeWord 0b1000111100010100 = some (.addReg 0xF 1) := by decide
theorem test_decode_subReg : decodeWord 0b1000000100100101 = some (.subReg 1 2) := by decide
theorem test_decode_shr : decodeWord 0b1000000100100110 = some (.shr 1 2) := by decide
theorem test_decode_subnReg : decodeWord 0b1000000100100111 = some (.subnReg 1 2) := by decide
theorem test_decode_shl : decodeWord 0b1000000100101110 = some (.shl 1 2) := by decide
theorem test_decode_sneReg : decodeWord 0b1001000100100000 = some (.sneReg 1 2) := by decide
theorem test_decode_ldI : decodeWord 0b1010001100000000 = some (.ldI 0x300) := by decide
theorem test_decode_jpV0 : decodeWord 0b1011001100000000 = some (.jpV0 0x300) := by decide
theorem test_decode_rnd : decodeWord 0b1100001100001111 = some (.rnd 3 0x0F) := by decide
theorem test_decode_drw : decodeWord 0b1101000100100101 = some (.drw 1 2 5) := by decide
theorem test_decode_skp : decodeWord 0b1110000110011110 = some (.skp 1) := by decide
theorem test_decode_sknp : decodeWord 0b1110000110100001 = some (.sknp 1) := by decide
theorem test_decode_ldVxDt : decodeWord 0b1111001000000111 = some (.ldVxDt 2) := by decide
theorem test_decode_ldVxK : decodeWord 0b1111001100001010 = some (.ldVxK 3) := by decide
theorem test_decode_ldDtVx : decodeWord 0b1111001000010101 = some (.ldDtVx 2) := by decide
theorem test_decode_ldStVx : decodeWord 0b1111001000011000 = some (.ldStVx 2) := by decide
theorem test_decode_addI : decodeWord 0b1111001000011110 = some (.addI 2) := by decide
theorem test_decode_ldF : decodeWord 0b1111010000101001 = some (.ldF 4) := by decide
theorem test_decode_ldB : decodeWord 0b1111010100110011 = some (.ldB 5) := by decide
theorem test_decode_stRegs : decodeWord 0b1111001001010101 = some (.stRegs 2) := by decide
theorem test_decode_ldRegs : decodeWord 0b1111001001100101 = some (.ldRegs 2) := by decide

/-! ## One step of each instruction (95_test_vectors L2) -/

/-- D-1. -/
theorem test_cls_clears : (run (r0.setFb (Vector.replicate fbSize true)) 0x00E0).map (fun t => (t.cell 0, t.cell 7, t.draw, t.pc)) = some (false, false, true, 0x202) := by decide
/-- C-1. -/
theorem test_ret_pops : (run (State.setPc { r0 with sp := 1, stack := r0.stack.set 0 0x204 } 0x20C) 0x00EE).map (fun t => (t.sp, t.pc, t.slot 0)) = some (0, 0x206, 0x204) := by decide
/-- C-2. -/
theorem test_ret_underflow : (run (r0.setPc 0x20C) 0x00EE).map (fun t => (record t, t.pc, t.sp)) = some ((true, 4, 0x20C, 0x00EE), 0x20C, 0) := by decide
/-- C-4. -/
theorem test_jp_target : (run r0 0x1ABC).map (fun t => t.pc) = some 0xABC := by decide
/-- C-7. -/
theorem test_call_pushes : (run (r0.setPc 0x204) 0x2208).map (fun t => (t.slot 0, t.sp, t.pc)) = some (0x204, 1, 0x208) := by decide
/-- C-8. -/
theorem test_call_overflow : (run ((deep 16).setPc 0x204) 0x2300).map (fun t => (record t, t.sp, t.pc)) = some ((true, 3, 0x204, 0x2300), 16, 0x204) := by decide
/-- C-10. -/
theorem test_jpV0_adds : (run (r0.setV 0 0xFF) 0xBFFF).map (fun t => t.pc) = some 0x10FE := by decide
/-- C-11. -/
theorem test_jpV0_odd : (run r0 0xB201).map (fun t => t.pc) = some 0x201 := by decide
/-- C-12. -/
theorem test_seImm_skips : (run (r0.setV 3 0x12) 0x3312).map (fun t => t.pc) = some 0x204 := by decide
/-- C-14. -/
theorem test_seImm_at_top : (run (r0.setPc 0xFFC) 0x3000).map (fun t => t.pc) = some 0x1000 := by decide
/-- C-15. -/
theorem test_sneImm_skips : (run (r0.setV 3 0x12) 0x4313).map (fun t => t.pc) = some 0x204 := by decide
/-- C-16. -/
theorem test_sneImm_falls_through : (run (r0.setV 3 0x12) 0x4312).map (fun t => t.pc) = some 0x202 := by decide
/-- C-18. -/
theorem test_seReg_falls_through : (run ((r0.setV 1 7).setV 2 8) 0x5120).map (fun t => t.pc) = some 0x202 := by decide
/-- C-19. -/
theorem test_seReg_same_register : (run (r0.setV 1 7) 0x5110).map (fun t => t.pc) = some 0x204 := by decide
/-- C-21. -/
theorem test_sneReg_skips : (run ((r0.setV 1 7).setV 2 8) 0x9120).map (fun t => t.pc) = some 0x204 := by decide
/-- C-22. -/
theorem test_sneReg_same_register : (run (r0.setV 1 7) 0x9110).map (fun t => t.pc) = some 0x202 := by decide
/-- A-1. -/
theorem test_ldImm : (run r0 0x6A42).map (fun t => (t.getV 0xA, t.pc)) = some (0x42, 0x202) := by decide
/-- A-2. -/
theorem test_ldImm_vf_is_data : (run (r0.setV vf 1) 0x6F07).map (fun t => t.getV vf) = some 0x07 := by decide
/-- A-3. -/
theorem test_addImm_wraps_without_flag : (run ((r0.setV 0 2).setV vf 9) 0x70FF).map (fun t => (t.getV 0, t.getV vf)) = some (1, 9) := by decide
/-- A-4. -/
theorem test_ldReg : (run (r0.setV 2 0x99) 0x8120).map (fun t => (t.getV 1, t.pc)) = some (0x99, 0x202) := by decide
/-- A-5. -/
theorem test_orReg_keeps_vf : (run (((r0.setV 1 0xF0).setV 2 0x0F).setV vf 5) 0x8121).map (fun t => (t.getV 1, t.getV vf)) = some (0xFF, 5) := by decide
/-- A-6. -/
theorem test_andReg : (run ((r0.setV 1 0xF0).setV 2 0x3C) 0x8122).map (fun t => t.getV 1) = some 0x30 := by decide
/-- A-7. -/
theorem test_xorReg : (run ((r0.setV 1 0xF0).setV 2 0x3C) 0x8123).map (fun t => t.getV 1) = some 0xCC := by decide
/-- A-8. -/
theorem test_xorReg_same_register : (run (r0.setV 1 0x5A) 0x8113).map (fun t => t.getV 1) = some 0x00 := by decide
/-- A-11. -/
theorem test_addReg_result_wins_in_vf : (run ((r0.setV vf 0xFF).setV 1 1) 0x8F14).map (fun t => t.getV vf) = some 0x00 := by decide
/-- A-12. -/
theorem test_addReg_y_is_vf : (run ((r0.setV 1 0xFC).setV vf 5) 0x81F4).map (fun t => (t.getV 1, t.getV vf)) = some (1, 1) := by decide
/-- A-14. -/
theorem test_subReg_borrow : (run ((r0.setV 1 5).setV 2 7) 0x8125).map (fun t => (t.getV 1, t.getV vf)) = some (0xFE, 0) := by decide
/-- A-16. -/
theorem test_subReg_equal : (run ((r0.setV 1 9).setV 2 9) 0x8125).map (fun t => (t.getV 1, t.getV vf)) = some (0, 1) := by decide
/-- A-20. -/
theorem test_shr_source_vy : (run (((withParams .vy .none .level).setV 1 5).setV 2 0x0C) 0x8126).map (fun t => (t.getV 1, t.getV vf, t.getV 2)) = some (6, 0, 0x0C) := by decide
/-- A-21. -/
theorem test_shr_source_vx : (run ((r0.setV 1 5).setV 2 0x0C) 0x8126).map (fun t => (t.getV 1, t.getV vf)) = some (2, 1) := by decide
/-- A-23. -/
theorem test_subnReg_borrow : (run ((r0.setV 1 7).setV 2 5) 0x8127).map (fun t => (t.getV 1, t.getV vf)) = some (0xFE, 0) := by decide
/-- A-25. -/
theorem test_subnReg_result_wins_in_vf : (run ((r0.setV vf 2).setV 1 9) 0x8F17).map (fun t => t.getV vf) = some 7 := by decide
/-- A-28. -/
theorem test_shl_result_wins_in_vf : (run (r0.setV vf 0xC1) 0x8F0E).map (fun t => t.getV vf) = some 0x82 := by decide
/-- A-29. -/
theorem test_shl_source_vy : (run (((withParams .vy .none .level).setV 1 1).setV 2 0x40) 0x812E).map (fun t => (t.getV 1, t.getV vf)) = some (0x80, 0) := by decide
/-- A-32: whatever the draw. -/
theorem test_rnd_masked : ∃ t, exec (.rnd 3 0x00) r0 = .next t ∧ t.getV 3 = 0 ∧ t.draws = 1 :=
  ⟨_, rfl, BitVec.and_zero, rfl⟩
/-- A-33: the draw itself, of which nothing is known. -/
theorem test_rnd_unmasked : ∃ t, exec (.rnd 3 0xFF) r0 = .next t ∧ t.getV 3 = Config.rand 0 :=
  ⟨_, rfl, BitVec.and_allOnes⟩
/-- M-1. -/
theorem test_ldI : (run r0 0xA300).map (fun t => (t.index, t.pc)) = some (0x300, 0x202) := by decide
/-- M-3. -/
theorem test_addI_range_flag : (run ((r0.setIndex 0xFFF).setV 1 1) 0xF11E).map (fun t => (t.index, t.getV vf)) = some (0x1000, 1) := by decide
/-- M-6. -/
theorem test_addI_addend_is_old_vf : (run ((r0.setIndex 0x300).setV vf 0x20) 0xFF1E).map (fun t => (t.index, t.getV vf)) = some (0x320, 0) := by decide
/-- M-7. -/
theorem test_ldF_glyph : (run (r0.setV 4 0x0A) 0xF429).map (fun t => t.index) = some 0x032 := by decide
/-- M-9. -/
theorem test_ldF_not_masked : (run (r0.setV 4 0xFF) 0xF429).map (fun t => t.index) = some 0x4FB := by decide
/-- M-14. -/
theorem test_ldB_top : (run ((r0.setIndex 0xFFD).setV 5 123) 0xF533).map (fun t => (t.peek 0xFFD, t.peek 0xFFE, t.peek 0xFFF, t.index)) = some (1, 2, 3, 0xFFD) := by decide
/-- M-15. -/
theorem test_ldB_range : (run ((r0.setIndex 0xFFE).setV 5 7) 0xF533).map (fun t => (record t, t.peek 0xFFE, t.peek 0xFFF)) = some ((true, 2, 0x200, 0xF533), 0, 0) := by decide
/-- M-17. -/
theorem test_stRegs_increment : (run (((((withParams .vx .xplus1 .level).setV 0 1).setV 1 2).setV 2 3).setIndex 0x300) 0xF255).map (fun t => (t.peek 0x300, t.peek 0x301, t.peek 0x302, t.index)) = some (1, 2, 3, 0x303) := by decide
/-- M-19. -/
theorem test_stRegs_range : (run ((r0.setIndex 0xFF1).setV 0 9) 0xFF55).map (fun t => (record t, t.peek 0xFF1)) = some ((true, 2, 0x200, 0xFF55), 0) := by decide
/-- M-21. -/
theorem test_ldRegs_keeps_the_rest : (run ((bytesAt r0 0x300 [2, 3, 4]).setIndex 0x300 |>.setV 3 9) 0xF265).map (fun t => (t.getV 0, t.getV 1, t.getV 2, t.getV 3)) = some (2, 3, 4, 9) := by decide
/-- M-23. -/
theorem test_ldRegs_range : (run (r0.setIndex 0x1000) 0xF065).map (fun t => (record t, t.pc)) = some ((true, 2, 0x200, 0xF065), 0x200) := by decide
/-- D-4. -/
theorem test_drw_collision : (run ((bytesAt r0 0x300 [0xF0]).setIndex 0x300 |>.setFb (r0.fb.set 3 true)) 0xD011).map (fun t => (t.cell 0, t.cell 2, t.cell 3, t.cell 4, t.getV vf, t.draw)) = some (true, true, false, false, 1, true) := by decide
/-- D-10. -/
theorem test_drw_off_screen : (run ((bytesAt r0 0x300 [0x81]).setIndex 0x300 |>.setV 1 0xFF) 0xD011).map (fun t => (t.cell 0, t.getV vf, t.draw, t.pc)) = some (false, 0, true, 0x202) := by decide
/-- K-1. -/
theorem test_skp_down : (run ((r0.setV 1 5).setKey 5 true) 0xE19E).map (fun t => t.pc) = some 0x204 := by decide
/-- K-5. -/
theorem test_skp_range : (run (r0.setV 1 0x10) 0xE19E).map (fun t => (record t, t.pc)) = some ((true, 5, 0x200, 0xE19E), 0x200) := by decide
/-- K-3. -/
theorem test_sknp_up : (run ((r0.setV 1 4).setKey 5 true) 0xE1A1).map (fun t => t.pc) = some 0x204 := by decide
/-- K-4. -/
theorem test_sknp_down : (run ((r0.setV 1 5).setKey 5 true) 0xE1A1).map (fun t => t.pc) = some 0x202 := by decide
/-- K-7. -/
theorem test_ldVxDt : (run (r0.setDt 0x3C) 0xF207).map (fun t => (t.getV 2, t.pc)) = some (0x3C, 0x202) := by decide
/-- K-8. -/
theorem test_ldDtVx : (run (r0.setV 2 0x3C) 0xF215).map (fun t => (t.dt, t.pc)) = some (0x3C, 0x202) := by decide
/-- K-9. -/
theorem test_ldStVx : (run (r0.setV 2 2) 0xF218).map (fun t => (t.st, t.soundOn, t.pc)) = some (2, true, 0x202) := by decide
/-- K-11: one key is down, so every draw picks it. -/
theorem test_ldVxK_completes : ∃ t, exec (.ldVxK 3) (r0.setKey 7 true) = .next t ∧ t.getV 3 = 7 ∧ t.pc = 0x202 := by
  have h : (r0.setKey 7 true).keysDown = [7] := by decide
  refine ⟨(r0.setKey 7 true).takeKey 3 7 [], ?_, ?_, rfl⟩
  · show Host.Outcome.next (State.waitLevel _ 3) = _
    rw [State.waitLevel, h]
  · simp [State.takeKey, State.drawKey, pickKey, State.writeReg]
/-- K-13. -/
theorem test_ldVxK_edge_arms : (run (((withParams .vx .none .edge).setPc 0x210).setKey 7 true) 0xF30A).map (fun t => (t.wait, t.snapped 7, t.pc, t.getV 3)) = some (true, true, 0x210, 0) := by decide

/-! ## Stepping, fetching, loading, resetting (95_test_vectors L2.5 and L2.6) -/

/-- F-1. -/
theorem test_fetch_range : ∃ t, step ((r0.setPc 0xFFF).setOp 0x1FFF) = .next t ∧
    record t = (true, 1, 0xFFF, 0x1FFF) ∧ t.op = 0x1FFF ∧ t.pc = 0xFFF := ⟨_, rfl, by decide, rfl, rfl⟩
/-- F-3. -/
theorem test_step_when_faulted : step faulted = .fault .halted := rfl
/-- F-4. -/
theorem test_first_step_from_reset : ∃ t, step State.reset = .next t ∧ t.pc = 0x202 ∧
    t.events = [.decodeError 0x200 0x0000] ∧ t.fault = false := ⟨_, rfl, rfl, rfl, rfl⟩
/-- F-6. -/
theorem test_decode_error_clears_wait : (run { withParams .vx .none .edge with wait := true } 0x0000).map (fun t => (t.wait, t.pc)) = some (false, 0x202) := by decide
/-- C-20. -/
theorem test_decode_error_no_skip : (run ((r0.setV 1 7).setV 2 7) 0x5121).map (fun t => (t.events, t.pc)) = some ([.decodeError 0x200 0x5121], 0x202) := by decide
/-- F-7. -/
theorem test_odd_pc : (run (r0.setPc 0x201) 0x6012).map (fun t => (t.getV 0, t.pc)) = some (0x12, 0x203) := by decide
/-- K-14. -/
theorem test_tick : tickByte 2 = 1 ∧ tickByte 1 = 0 := by decide
/-- K-16. -/
theorem test_tick_when_faulted : faulted.tick.dt = 2 ∧ faulted.tick.fault = true := by decide
/-- F-11. -/
theorem test_keySet_drawAck :
    (((r0.setDraw true).keySet 7 true).drawAck.pressed 7, ((r0.setDraw true).keySet 7 true).drawAck.draw) = (true, false) := by
  decide
/-- F-10. -/
theorem test_init_when_faulted : faulted.init = { State.reset with draws := faulted.draws, events := faulted.events } := rfl
/-- F-9. -/
theorem test_load_bound (bytes : List Byte) (h : bytes.length = 3585) : r0.loadProgram bytes = none := by
  simp [State.loadProgram, progMax, h]
/-- F-8, on the length alone. -/
theorem test_load_longest (bytes : List Byte) (h : bytes.length = 3584) : (r0.loadProgram bytes).isSome = true := by
  simp [State.loadProgram, progMax, h]
/-- The image of program P1 (95_test_vectors L3): its first step. -/
theorem test_load_then_step :
    (((r0.loadProgram [0x60, 0x05, 0x70, 0x03, 0x12, 0x00]).bind (fun s => match step s with
      | .next t => some t
      | _ => none)).map (fun t => (t.getV 0, t.pc))) = some (5, 0x202) := by decide
/-- The default font's glyph A at 0x032 (10_state R40). -/
theorem test_font_glyph : (r0.peek 0x032, r0.peek 0x033, r0.peek 0x036) = (0xF0, 0x90, 0x90) := by decide

/-! ## Witnesses: concrete states that meet the hypotheses of each statement, each clause at the edge of its range -/

/-- O3. -/
theorem test_witness_decoded_word : decodeWord 0x8124 = some (.addReg 1 2) := by decide
/-- O4 and O5. -/
theorem test_witness_admitted_word : (Instr.row (.addReg 0 0)) ∈ opcodeTable ∧ (Instr.row (.addReg 0 0)).admits 0x8124 = true ∧
    decodeWord 0x8128 = none ∧ (0x8FF4 : Word) &&& (Instr.row (.addReg 1 2)).mask = (Instr.row (.addReg 1 2)).value := by decide
/-- O6. -/
theorem test_witness_each_error_family : [0x0123, 0x5121, 0x8128, 0x9121, 0xE19F, 0xF00B].map decodeWord = [none, none, none, none, none, none] := by decide
/-- O7, the first two clauses, and O12. -/
theorem test_witness_fault_and_pc : faulted.fault = true ∧ r0.fault = false ∧ (r0.setPc 0xFFF).pc.toNat = 0xFFE + 1 ∧ (r0.setPc 0xFFE).pc.toNat ≤ 0xFFE := by decide
/-- O7, a decode error. -/
theorem test_witness_step_decode_error : r0.fault = false ∧ r0.pc.toNat ≤ 0xFFE ∧
    (0x0000 : Word).toNat = (r0.peek r0.pc.toNat).toNat * 256 + (r0.peek (r0.pc.toNat + 1)).toNat ∧ decodeWord 0x0000 = none := by decide
/-- O7, a decoded instruction that is neither FX0A nor faulting. -/
theorem test_witness_step_decoded : ∃ t, ((r0.placeWord 0x6A42).peek 0x200).toNat * 256 + ((r0.placeWord 0x6A42).peek 0x201).toNat = 0x6A42 ∧
    decodeWord 0x6A42 = some (.ldImm 0xA 0x42) ∧ exec (.ldImm 0xA 0x42) { r0.placeWord 0x6A42 with op := 0x6A42 } = .next t ∧ t.fault = false := ⟨_, by decide, by decide, rfl, rfl⟩
/-- O7, FX0A and a fault. -/
theorem test_witness_step_keeps_wait : ∃ t u, exec (.ldVxK 3) { r0.placeWord 0xF30A with op := 0xF30A } = .next t ∧
    exec .ret { r0.placeWord 0x00EE with op := 0x00EE } = .next u ∧ u.fault = true := ⟨_, _, rfl, rfl, rfl⟩
/-- O8 and O9, the highest fetch. -/
theorem test_witness_highest_fetch : r0.fault = false ∧ ((r0.setPc 0xFFE).placeWord 0x6A42).fetchWord = .ok 0x6A42 := by decide
/-- O8, an odd address. -/
theorem test_witness_odd_fetch : ((r0.setPc 0x201).placeWord 0x6A42).fetchWord = .ok 0x6A42 := by decide
/-- O10 and O11. -/
theorem test_witness_precise_fault : ∃ t u, step (r0.placeWord 0x00EE) = .next t ∧ t.fault = true ∧ r0.fault = false ∧ exec .ret r0 = .next u ∧ u.fault = true := ⟨_, _, rfl, rfl, rfl, rfl, rfl⟩
/-- O10, a fetch fault. -/
theorem test_witness_precise_fetch_fault : ∃ t, step (r0.setPc 0xFFF) = .next t ∧ t.fault = true := ⟨_, rfl, rfl⟩
/-- O12, a transaction other than INIT. -/
theorem test_witness_transactions : faulted.fault = true ∧ Transaction.tick ≠ .init := by decide
/-- O15 and O16: a state that meets the invariant and steps, in EDGE mode with FX0A armed and a full stack. -/
def armed : State := { deep 16 with cfg := { defaultParams with fx0aTrigger := .edge }, wait := true, ksnap := r0.key.set 7 true }
theorem test_witness_armed_inv : armed.Inv := by
  refine ⟨by decide, ⟨by decide, by decide⟩, fun h => ?_, ?_, ?_⟩
  · cases h
  · unfold State.StackOk
    decide
  · unfold State.PcOk
    decide
theorem test_witness_armed_steps : ∃ t, step (armed.placeWord 0x00EE) = .next t ∧ t.fault = false := ⟨_, rfl, rfl⟩
/-- O18, O19, O20 and O21: what each field can change by. -/
theorem test_witness_writers : ∃ a b c d e, exec (.ldB 5) ((r0.setIndex 0x300).setV 5 234) = .next a ∧ a.peek 0x300 = 2 ∧
    exec (.call 0x300) r0 = .next b ∧ b.sp = 1 ∧ exec (.ldStVx 2) (r0.setV 2 2) = .next c ∧ c.st = 2 ∧
    exec .cls r0 = .next d ∧ d.draw = true ∧ exec (.ldVxK 3) (withParams .vx .none .edge) = .next e ∧ e.wait = true := ⟨_, _, _, _, _, rfl, by decide, rfl, rfl, rfl, by decide, rfl, rfl, rfl, rfl⟩
/-- O18, V and the fault record. -/
theorem test_witness_writers_record : ∃ t u, exec (.ldImm 3 7) r0 = .next t ∧ t.getV 3 ≠ r0.getV 3 ∧
    exec (.skp 1) (r0.setV 1 0x10) = .next u ∧ u.fault ≠ (r0.setV 1 0x10).fault := ⟨_, _, rfl, by decide, rfl, by decide⟩
/-- O18, I in the XPLUS1 mode. -/
theorem test_witness_writers_index : ∃ t, exec (.ldRegs 2) (withParams .vx .xplus1 .level) = .next t ∧ t.index = 3 := ⟨_, rfl, by decide⟩
/-- O27. -/
theorem test_witness_shift_sources : (withParams .vx .none .level).cfg.shiftSrc = .vx ∧ (withParams .vy .none .level).cfg.shiftSrc = .vy := by decide
/-- O30. -/
theorem test_witness_call_depths : (deep 15).sp.val < 16 ∧ (deep 16).sp = 16 ∧ (deep 0).sp.val < 16 := by decide
/-- O31. -/
theorem test_witness_return_depths : (deep 16).sp.val = (15 : Fin 16).val + 1 ∧ (deep 1).sp.val = (0 : Fin 16).val + 1 ∧ (deep 0).sp = 0 := by decide
/-- O32. -/
theorem test_witness_call_then_return : ∃ t, (deep 15).sp.val < 16 ∧ exec (.call 0x208) (deep 15) = .next t ∧
    (t.setV 1 7).stack = t.stack ∧ (t.setV 1 7).sp = t.sp := ⟨_, by decide, rfl, rfl, rfl⟩
/-- O34. -/
theorem test_witness_key_numbers : ((r0.setV 1 0xF).getV 1).toNat = (15 : Key).val ∧ ((r0.setV 1 0).getV 1).toNat = (0 : Key).val ∧ 0xF < ((r0.setV 1 0x10).getV 1).toNat := by decide
/-- O37. -/
theorem test_witness_decimal_range : (r0.setIndex 0xFFD).base + 2 ≤ 0xFFF ∧ 0xFFF < (r0.setIndex 0xFFE).base + 2 ∧ 0xFFF < (r0.setIndex 0xFFFF).base + 2 := by decide
/-- O38 and O39, X = 0 and X = F. -/
theorem test_witness_register_ranges : (r0.setIndex 0xFFF).base + (0 : Reg).val ≤ 0xFFF ∧ 0xFFF < (r0.setIndex 0x1000).base + (0 : Reg).val ∧
    (r0.setIndex 0xFF0).base + (15 : Reg).val ≤ 0xFFF ∧ 0xFFF < (r0.setIndex 0xFF1).base + (15 : Reg).val ∧
    (withParams .vx .xplus1 .level).cfg.ldstInc = .xplus1 ∧ r0.cfg.ldstInc = .none := by decide
/-- O40. -/
theorem test_witness_store_then_load : ∃ t, (r0.setIndex 0xFF0).base + (15 : Reg).val ≤ 0xFFF ∧ exec (.stRegs 15) (r0.setIndex 0xFF0) = .next t ∧
    (t.setV 2 9).mem = t.mem ∧ (t.setV 2 9).cfg = t.cfg ∧ (t.setV 2 9).index = (r0.setIndex 0xFF0).index := ⟨_, by decide, rfl, rfl, rfl, rfl⟩
/-- O41, as in program P9 (95_test_vectors L3). -/
theorem test_witness_self_modifying : ∃ t, 1 ≤ (1 : Reg).val ∧ ((r0.setPc 0x206).setIndex 0x208).base = ((r0.setPc 0x206).setIndex 0x208).pc.toNat + 2 ∧
    ((r0.setPc 0x206).setIndex 0x208).base + (1 : Reg).val ≤ 0xFFF ∧ exec (.stRegs 1) ((r0.setPc 0x206).setIndex 0x208) = .next t := ⟨_, by decide, by decide, by decide, rfl⟩
/-- O43, N = 0 above memory (D-11), the last byte, and one byte beyond (D-12). -/
theorem test_witness_sprite_ranges : (0 : Fin 16).val = 0 ∧ (r0.setIndex 0xFFF).base + (1 : Fin 16).val - 1 ≤ 0xFFF ∧
    0 < (2 : Fin 16).val ∧ 0xFFF < (r0.setIndex 0xFFF).base + (2 : Fin 16).val - 1 := by decide
/-- O43: a sprite with a pixel on a set cell and a pixel on a clear one (D-4). -/
def sprited : State := ((bytesAt r0 0x300 [0xF0]).setIndex 0x300).setFb (r0.fb.set 3 true)
theorem test_witness_sprite_pixels : DrawsPixel sprited 0 1 1 3 ∧ sprited.cell 3 = true ∧ DrawsPixel sprited 0 1 1 0 ∧ sprited.cell 0 = false :=
  ⟨⟨0, 3, by decide, by decide, by decide, by decide⟩, by decide, ⟨0, 0, by decide, by decide, by decide, by decide⟩, by decide⟩
/-- O44. -/
theorem test_witness_draw_twice : ∃ t u, (0 : Reg) ≠ vf ∧ (1 : Reg) ≠ vf ∧ sprited.base + (1 : Fin 16).val - 1 ≤ 0xFFF ∧
    exec (.drw 0 1 1) sprited = .next t ∧ exec (.drw 0 1 1) t = .next u :=
  ⟨_, _, by decide, by decide, by decide, rfl, rfl⟩
/-- O46, LEVEL. -/
theorem test_witness_key_level : r0.cfg.fx0aTrigger = .level ∧ (∀ k, r0.pressed k = false) ∧ (r0.setKey 7 true).pressed 7 = true := by decide
/-- O46, EDGE: not armed; armed with key 7 held since; armed with key 2 newly down. -/
theorem test_witness_key_edge : armed.cfg.fx0aTrigger = .edge ∧ (armed.setWait false).wait = false ∧ armed.wait = true ∧
    (∀ k, (armed.setKey 7 true).pressed k = true → (armed.setKey 7 true).snapped k = true) ∧
    (armed.setKey 2 true).pressed 2 = true ∧ (armed.setKey 2 true).snapped 2 = false := by decide
/-- O47. -/
theorem test_witness_key_choice : (7 : Key) ∈ (2 : Key) :: [7] := by decide
/-- O12 and O50. -/
theorem test_witness_load_lengths : 3584 < (List.replicate 3585 (1 : Byte)).length ∧ (List.replicate 3584 (1 : Byte)).length ≤ 3584 := ⟨Nat.lt_of_lt_of_eq (by decide) List.length_replicate.symm, Nat.le_of_eq List.length_replicate⟩
/-- O54. -/
theorem test_witness_after_init : r0.init = (r0.transact .init).1 := rfl
/-- O55: 1200 at 0x200 (C-6). -/
theorem test_witness_settled : (r0.placeWord 0x1200).Settled := ⟨rfl, 0x1200, 0x200, by decide, by decide, by decide⟩

end Sys2Proof.Tests
end

section
/-! The parameters and the reset values (spec/00_scope.md R6, spec/10_state.md R36 and R39): what no instruction writes, what the
host's transactions keep, and what reset leaves. -/

namespace Sys2Proof.Machine

variable {s t : State} {i : Instr}

/-! ## What no instruction writes -/

/-- The four fields that no instruction writes: the keypad, OP, the parameters and the event output (10_state R20). -/
def SameUnwritten (s t : State) : Prop := t.key = s.key ∧ t.op = s.op ∧ t.cfg = s.cfg ∧ t.events = s.events

theorem ownEffect_sameUnwritten (h : OwnEffect s t i) : SameUnwritten s t := by
  cases i
  case call =>
    obtain ⟨u, hu, rfl⟩ := h
    obtain ⟨-, rfl⟩ := State.push_eq_ok.1 hu
    exact ⟨rfl, rfl, rfl, rfl⟩
  case ret =>
    obtain ⟨w, u, hu, rfl⟩ := h
    obtain ⟨-, -, rfl⟩ := State.pop_eq_ok.1 hu
    exact ⟨rfl, rfl, rfl, rfl⟩
  case ldB | stRegs =>
    obtain ⟨u, hu, rfl⟩ := h
    obtain ⟨-, rfl⟩ := State.store_eq_ok.1 hu
    exact ⟨rfl, rfl, rfl, rfl⟩
  case drw | ldRegs | skp | sknp =>
    obtain ⟨-, -, rfl⟩ := h
    exact ⟨rfl, rfl, rfl, rfl⟩
  case ldVxK =>
    obtain ⟨-, rfl | ⟨k, ks, -, rfl⟩⟩ | ⟨-, rfl | rfl | ⟨k, ks, -, rfl⟩⟩ := exec_ldVxK_cases h <;>
      exact ⟨rfl, rfl, rfl, rfl⟩
  all_goals
    obtain rfl := Host.Outcome.next.inj h
    exact ⟨rfl, rfl, rfl, rfl⟩

/-- Fault entry included (60_exceptions R201). -/
theorem exec_sameUnwritten (h : exec i s = .next t) : SameUnwritten s t := by
  obtain he | ⟨c, -, rfl⟩ := exec_cases h
  · exact ownEffect_sameUnwritten he
  · exact ⟨rfl, rfl, rfl, rfl⟩

theorem exec_cfg (h : exec i s = .next t) : t.cfg = s.cfg := by
  obtain ⟨-, -, hcfg, -⟩ := exec_sameUnwritten h
  exact hcfg

/-! ## What a step and a transaction keep -/

@[simp] theorem State.afterExec_cfg (t : State) (i : Instr) : (t.afterExec i).cfg = t.cfg := by
  unfold State.afterExec
  split <;> rfl

theorem step_cfg (h : step s = .next t) : t.cfg = s.cfg := by
  obtain ⟨-, ⟨-, rfl⟩ | ⟨-, w, -, ⟨-, rfl⟩ | ⟨i, u, -, hu, rfl⟩⟩⟩ := step_cases h
  · exact State.raise_cfg ..
  · simp
  · simpa using exec_cfg hu

/-- LOAD writes the memory or is refused with nothing changed (60_exceptions R207, R224). -/
theorem State.loadTransaction_cases (s : State) (bytes : List Byte) :
    (bytes.length ≤ progMax ∧
      s.loadTransaction bytes = (s.setMem (Memory.writeList s.cfg.font s.mem progBase bytes), .ok)) ∨
    (progMax < bytes.length ∧ s.loadTransaction bytes = (s, .loadError)) := by
  by_cases h : bytes.length > progMax
  · exact .inr ⟨h, by simp [State.loadTransaction, State.loadProgram, h]⟩
  · exact .inl ⟨by omega, by simp [State.loadTransaction, State.loadProgram, h]⟩

/-- STEP takes a step or, where none is enabled, changes nothing (60_exceptions R203). -/
theorem State.stepTransaction_fst_cases (s : State) :
    step s = .next s.stepTransaction.1 ∨ s.stepTransaction.1 = s := by
  unfold State.stepTransaction
  split
  · exact .inl ‹_›
  · exact .inr rfl
  · exact .inr rfl

@[simp] theorem State.transact_cfg (s : State) (tr : Transaction) : (s.transact tr).1.cfg = s.cfg := by
  cases tr with
  | step =>
    obtain h | h := s.stepTransaction_fst_cases
    · exact step_cfg h
    · exact congrArg State.cfg h
  | load bytes =>
    obtain ⟨-, h⟩ | ⟨-, h⟩ := s.loadTransaction_cases bytes <;> exact congrArg (·.1.cfg) h
  | tick | init | keySet | drawAck | read => rfl

/-- The induction over interleavings, packaged: what every transaction keeps, every list of them keeps (60_exceptions R222). -/
theorem State.transactAll_keeps {P : State → Prop} (hP : ∀ s tr, P s → P (State.transact s tr).1) (ts : List Transaction)
    (h : P s) : P (s.transactAll ts) := by
  induction ts generalizing s with
  | nil => exact h
  | cons tr ts ih => exact ih (hP s tr h)

/-- Settles O17, by induction over the transactions: each keeps the field that holds the parameters. -/
theorem parametersNeverChange : Obligations.ParametersNeverChange := by
  intro s ts
  exact State.transactAll_keeps (P := fun t => t.cfg = s.cfg) (fun t tr ht => (t.transact_cfg tr).trans ht) ts rfl

/-! ## What reset leaves -/

/-- After reset every byte reads as the font or 0, as no address is listed (10_state R39, log 7). -/
@[simp] theorem State.peek_resetWith (cfg : Params) (a : Nat) : (State.resetWith cfg).peek a = resetByte cfg.font a :=
  Memory.read_nil cfg.font a

theorem resetByte_of_lt (font : Vector Byte 80) {a : Nat} (h : a < 80) : resetByte font a = font[a] := dif_pos h

theorem resetByte_of_ge (font : Vector Byte 80) {a : Nat} (h : 80 ≤ a) : resetByte font a = 0 := dif_neg (by omega)

theorem holdsResetValues_resetWith (cfg : Params) : HoldsResetValues (State.resetWith cfg) := by
  refine ⟨fun a h => ?font, fun a h _ => ?zero, fun r => ?regs, fun k => ?slots, rfl, rfl, rfl, rfl, rfl,
    fun p => ?cells, fun k => ?keys, rfl, rfl, rfl, rfl, rfl, rfl, rfl, fun k => ?snap⟩
  case font => exact (State.peek_resetWith cfg a).trans (resetByte_of_lt cfg.font h)
  case zero => exact (State.peek_resetWith cfg a).trans (resetByte_of_ge cfg.font h)
  case regs | slots | cells | keys | snap => exact Vector.getElem_replicate _

/-- Settles O52: the reset state of any parameters holds the table's values, and `State.reset` is that of the defaults. -/
theorem resetLeavesTheStatedValues : Obligations.ResetLeavesTheStatedValues :=
  ⟨fun cfg => ⟨holdsResetValues_resetWith cfg, rfl⟩, holdsResetValues_resetWith defaultParams, rfl, rfl, rfl, rfl⟩

end Sys2Proof.Machine
end

section
/-! The fields of the state (spec/10_state.md R20): the frame of every instruction, which instruction writes which field, that ST is
never read, and the invariant of the machine. -/

namespace Sys2Proof.Machine

variable {s t : State} {i : Instr}

/-! ## The frame of every instruction -/

/-- The fields an instruction may write when it does not take its fault (10_state R20): each equation lists them and leaves every
other field as it was. -/
def Frame (s t : State) : Instr → Prop
  | .cls => t = { s with fb := t.fb, draw := t.draw, pc := t.pc }
  | .ret => t = { s with sp := t.sp, pc := t.pc }
  | .call _ => t = { s with stack := t.stack, sp := t.sp, pc := t.pc }
  | .jp _ | .jpV0 _ | .seImm _ _ | .sneImm _ _ | .seReg _ _ | .sneReg _ _ | .skp _ | .sknp _ => t = { s with pc := t.pc }
  | .ldImm _ _ | .addImm _ _ | .ldReg _ _ | .orReg _ _ | .andReg _ _ | .xorReg _ _ | .ldVxDt _ => t = { s with v := t.v, pc := t.pc }
  | .addReg _ _ | .subReg _ _ | .shr _ _ | .subnReg _ _ | .shl _ _ => t = { s with v := t.v, pc := t.pc }
  | .rnd _ _ => t = { s with v := t.v, pc := t.pc, draws := t.draws }
  | .drw _ _ _ => t = { s with v := t.v, fb := t.fb, draw := t.draw, pc := t.pc }
  | .ldVxK _ => t = { s with v := t.v, pc := t.pc, draws := t.draws, wait := t.wait, ksnap := t.ksnap }
  | .ldDtVx _ => t = { s with dt := t.dt, pc := t.pc }
  | .ldStVx _ => t = { s with st := t.st, pc := t.pc }
  | .ldI _ | .ldF _ => t = { s with index := t.index, pc := t.pc }
  | .addI _ => t = { s with index := t.index, v := t.v, pc := t.pc }
  | .ldB _ => t = { s with mem := t.mem, pc := t.pc }
  | .stRegs x => t = { s with mem := t.mem, index := s.indexAfter x, pc := t.pc }
  | .ldRegs x => t = { s with v := t.v, index := s.indexAfter x, pc := t.pc }

theorem ownEffect_frame (h : OwnEffect s t i) : Frame s t i := by
  cases i
  case call =>
    obtain ⟨u, hu, rfl⟩ := h
    obtain ⟨-, rfl⟩ := State.push_eq_ok.1 hu
    rfl
  case ret =>
    obtain ⟨w, u, hu, rfl⟩ := h
    obtain ⟨-, -, rfl⟩ := State.pop_eq_ok.1 hu
    rfl
  case ldB | stRegs =>
    obtain ⟨u, hu, rfl⟩ := h
    obtain ⟨-, rfl⟩ := State.store_eq_ok.1 hu
    rfl
  case drw | ldRegs | skp | sknp =>
    obtain ⟨-, -, rfl⟩ := h
    rfl
  case ldVxK =>
    obtain ⟨-, rfl | ⟨k, ks, -, rfl⟩⟩ | ⟨-, rfl | rfl | ⟨k, ks, -, rfl⟩⟩ := exec_ldVxK_cases h <;> rfl
  all_goals
    obtain rfl := Host.Outcome.next.inj h
    rfl

/-! ## Which instruction writes which field -/

/-- No instruction writes the fault record but by taking its fault (10_state R34). -/
theorem frame_faultRecord (h : Frame s t i) :
    t.fault = s.fault ∧ t.fcause = s.fcause ∧ t.fpc = s.fpc ∧ t.fop = s.fop := by
  cases i <;> rw [h] <;> exact ⟨rfl, rfl, rfl, rfl⟩

theorem frame_mem (h : Frame s t i) : t.mem = s.mem ∨ ∃ x, i = .ldB x ∨ i = .stRegs x := by
  cases i
  case ldB x => exact .inr ⟨x, .inl rfl⟩
  case stRegs x => exact .inr ⟨x, .inr rfl⟩
  all_goals exact .inl (congrArg State.mem h :)

theorem State.indexAfter_none (x : Reg) (h : s.cfg.ldstInc = .none) : s.indexAfter x = s.index := by
  simp [State.indexAfter, h]

theorem frame_index (h : Frame s t i) : t.index = s.index ∨
    (∃ n, i = .ldI n) ∨ (∃ x, i = .addI x ∨ i = .ldF x) ∨
      (s.cfg.ldstInc = .xplus1 ∧ ∃ x, i = .stRegs x ∨ i = .ldRegs x) := by
  cases i
  case ldI n => exact .inr (.inl ⟨n, rfl⟩)
  case addI x => exact .inr (.inr (.inl ⟨x, .inl rfl⟩))
  case ldF x => exact .inr (.inr (.inl ⟨x, .inr rfl⟩))
  case stRegs x | ldRegs x =>
    cases hinc : s.cfg.ldstInc with
    | none => exact .inl ((congrArg State.index h :).trans (State.indexAfter_none x hinc))
    | xplus1 => exact .inr (.inr (.inr ⟨rfl, x, by simp⟩))
  all_goals exact .inl (congrArg State.index h :)

theorem frame_stack (h : Frame s t i) : t.stack = s.stack ∨ ∃ n, i = .call n := by
  cases i
  case call n => exact .inr ⟨n, rfl⟩
  all_goals exact .inl (congrArg State.stack h :)

theorem frame_sp (h : Frame s t i) : t.sp = s.sp ∨ i = .ret ∨ ∃ n, i = .call n := by
  cases i
  case ret => exact .inr (.inl rfl)
  case call n => exact .inr (.inr ⟨n, rfl⟩)
  all_goals exact .inl (congrArg State.sp h :)

theorem frame_dt (h : Frame s t i) : t.dt = s.dt ∨ ∃ x, i = .ldDtVx x := by
  cases i
  case ldDtVx x => exact .inr ⟨x, rfl⟩
  all_goals exact .inl (congrArg State.dt h :)

theorem frame_st (h : Frame s t i) : t.st = s.st ∨ ∃ x, i = .ldStVx x := by
  cases i
  case ldStVx x => exact .inr ⟨x, rfl⟩
  all_goals exact .inl (congrArg State.st h :)

theorem frame_display (h : Frame s t i) : (t.fb = s.fb ∧ t.draw = s.draw) ∨ i = .cls ∨ ∃ x y n, i = .drw x y n := by
  cases i
  case cls => exact .inr (.inl rfl)
  case drw x y n => exact .inr (.inr ⟨x, y, n, rfl⟩)
  all_goals exact .inl ⟨(congrArg State.fb h :), (congrArg State.draw h :)⟩

theorem ownEffect_wait (h : OwnEffect s t i) :
    (t.wait = s.wait ∧ t.ksnap = s.ksnap) ∨ (s.cfg.fx0aTrigger = .edge ∧ ∃ x, i = .ldVxK x) := by
  cases i
  case ldVxK x =>
    obtain ⟨-, rfl | ⟨k, ks, -, rfl⟩⟩ | ⟨he, -⟩ := exec_ldVxK_cases h
    · exact .inl ⟨rfl, rfl⟩
    · exact .inl ⟨rfl, rfl⟩
    · exact .inr ⟨he, x, rfl⟩
  all_goals
    have hf := ownEffect_frame h
    exact .inl ⟨(congrArg State.wait hf :), (congrArg State.ksnap hf :)⟩

theorem frame_draws (h : Frame s t i) : t.draws = s.draws ∨ (∃ x nn, i = .rnd x nn) ∨ ∃ x, i = .ldVxK x := by
  cases i
  case rnd x nn => exact .inr (.inl ⟨x, nn, rfl⟩)
  case ldVxK x => exact .inr (.inr ⟨x, rfl⟩)
  all_goals exact .inl (congrArg State.draws h :)

theorem State.getV_of_v (h : t.v = s.v) (r : Reg) : t.getV r = s.getV r := by
  simp [State.getV, h]

/-- A register that 10_state R23 does not list for the instruction is unchanged. -/
theorem ownEffect_getV {r : Reg} (h : OwnEffect s t i) (hr : writesReg i r = false) : t.getV r = s.getV r := by
  cases i
  case ldImm | addImm | ldReg | orReg | andReg | xorReg | rnd | ldVxDt =>
    obtain rfl := Host.Outcome.next.inj h
    simp only [writesReg, beq_eq_false_iff_ne] at hr
    simp [hr]
  case addReg | subReg | shr | subnReg | shl =>
    obtain rfl := Host.Outcome.next.inj h
    simp only [writesReg, Bool.or_eq_false_iff, beq_eq_false_iff_ne] at hr
    simp [hr]
  case addI =>
    obtain rfl := Host.Outcome.next.inj h
    have hf : r ≠ vf := by simpa [writesReg] using hr
    simp [hf]
  case drw =>
    obtain ⟨-, -, rfl⟩ := h
    have hf : r ≠ vf := by simpa [writesReg] using hr
    simp [hf]
  case ldRegs x =>
    obtain ⟨bytes, hb, rfl⟩ := h
    obtain ⟨-, rfl⟩ := State.load_eq_ok.1 hb
    have hx : x.val < r.val := by simpa [writesReg] using hr
    have hlen : ¬ r.val < x.val + 1 := by omega
    simp [hlen]
  case ldVxK x =>
    have hx : r ≠ x := by simpa [writesReg] using hr
    obtain ⟨-, rfl | ⟨k, ks, -, rfl⟩⟩ | ⟨-, rfl | rfl | ⟨k, ks, -, rfl⟩⟩ := exec_ldVxK_cases h <;>
      simp [State.takeKey, hx]
  all_goals exact State.getV_of_v (congrArg State.v (ownEffect_frame h)) r

theorem exec_getV {r : Reg} (h : exec i s = .next t) (hr : writesReg i r = false) : t.getV r = s.getV r := by
  obtain ho | ⟨c, -, rfl⟩ := exec_cases h
  · exact ownEffect_getV ho hr
  · exact s.raise_getV c r

/-- Settles O19: own effects keep every register that is not listed, and fault entry keeps all. -/
theorem onlyNamedRegistersAreWritten : Obligations.OnlyNamedRegistersAreWritten := by
  intro i s t r h hne
  by_contra hw
  exact hne (exec_getV h (by simpa using hw))

/-- Settles O18: an own effect stays in the instruction's frame, and fault entry writes the fault record alone. -/
theorem onlyNamedInstructionsWriteEachField : Obligations.OnlyNamedInstructionsWriteEachField := by
  intro i s t h
  refine ⟨exec_sameUnwritten h, fun r => onlyNamedRegistersAreWritten i s t r h, ?_⟩
  obtain ho | ⟨c, hc, rfl⟩ := exec_cases h
  · have hf := ownEffect_frame ho
    obtain ⟨hfault, hcause, hpc, hop⟩ := frame_faultRecord hf
    refine ⟨?record, (frame_mem hf).resolve_left, (frame_index hf).resolve_left, (frame_stack hf).resolve_left,
      (frame_sp hf).resolve_left, (frame_dt hf).resolve_left, (frame_st hf).resolve_left, ?display, ?wait,
      (frame_draws hf).resolve_left⟩
    case record => simp [hfault, hcause, hpc, hop]
    case display => exact fun hne => (frame_display hf).resolve_left (by tauto)
    case wait => exact fun hne => (ownEffect_wait ho).resolve_left (by tauto)
  · exact ⟨fun _ => ⟨c, hc, rfl⟩, by simp⟩

/-! ## ST is never read -/

/-! The readers the checks use do not see ST, and the operations with a check commute with a write of it. -/

section SoundTimer

variable (s : State) (b : Byte)

@[simp] theorem State.setSt_base : (s.setSt b).base = s.base := rfl
@[simp] theorem State.setSt_regsUpTo (x : Reg) : (s.setSt b).regsUpTo x = s.regsUpTo x := rfl
@[simp] theorem State.setSt_load (a n : Nat) : (s.setSt b).load a n = s.load a n := rfl
@[simp] theorem State.setSt_keysDown : (s.setSt b).keysDown = s.keysDown := rfl
@[simp] theorem State.setSt_keysNewlyDown : (s.setSt b).keysNewlyDown = s.keysNewlyDown := rfl

theorem State.push_setSt (w : Word) : (s.setSt b).push w = (s.push w).map (·.setSt b) := by
  by_cases h : s.sp.val < 16
  · rw [State.push_ok w h, State.push_ok (s := s.setSt b) w h]
    rfl
  · simp [State.push, h, Except.map]

theorem State.pop_setSt : (s.setSt b).pop = s.pop.map (fun p => (p.1, p.2.setSt b)) := by
  by_cases h : 0 < s.sp.val
  · rw [State.pop_ok h, State.pop_ok (s := s.setSt b) h]
    rfl
  · simp [State.pop, h, Except.map]

theorem State.store_setSt (a : Nat) (bs : List Byte) : (s.setSt b).store a bs = (s.store a bs).map (·.setSt b) := by
  unfold State.store
  split <;> rfl

theorem State.waitLevel_setSt (x : Reg) : (s.setSt b).waitLevel x = (s.waitLevel x).setSt b := by
  unfold State.waitLevel
  rw [State.setSt_keysDown]
  cases s.keysDown <;> rfl

theorem State.waitEdge_setSt (x : Reg) : (s.setSt b).waitEdge x = (s.waitEdge x).setSt b := by
  unfold State.waitEdge
  rw [State.setSt_wait, State.setSt_keysNewlyDown]
  cases s.wait
  · rfl
  · cases s.keysNewlyDown <;> rfl

/-- An instruction with a check answers alike when what the check gives differs in ST alone. -/
theorem State.orRaise_setSt {r q : Except Cause State} (hq : q = r.map (·.setSt b)) (h : s.orRaise r = .next t) :
    (s.setSt b).orRaise q = .next (t.setSt b) := by
  subst hq
  cases r <;> cases h <;> rfl

end SoundTimer

/-- Every instruction but FX18 commutes with a write of ST (10_state R29). -/
theorem exec_setSt (b : Byte) (hi : ∀ x, i ≠ .ldStVx x) (h : exec i s = .next t) :
    exec i (s.setSt b) = .next (t.setSt b) := by
  cases i
  case ldStVx x => exact absurd rfl (hi x)
  case call nnn =>
    refine State.orRaise_setSt s b ?_ h
    rw [State.push_setSt, State.setSt_pc]
    cases s.push s.pc <;> rfl
  case ret =>
    refine State.orRaise_setSt s b ?_ h
    rw [State.pop_setSt]
    cases s.pop <;> rfl
  case ldB x =>
    refine State.orRaise_setSt s b ?_ h
    rw [State.store_setSt, State.setSt_base, State.setSt_getV]
    cases s.store s.base _ <;> rfl
  case stRegs x =>
    refine State.orRaise_setSt s b ?_ h
    rw [State.store_setSt, State.setSt_base, State.setSt_regsUpTo]
    cases s.store s.base _ <;> rfl
  case drw | ldRegs =>
    refine State.orRaise_setSt s b ?_ h
    rw [State.setSt_load, State.setSt_base]
    cases s.load s.base _ <;> rfl
  case skp x | sknp x =>
    refine State.orRaise_setSt s b ?_ h
    rw [State.setSt_getV]
    cases keyOf (s.getV x) <;> rfl
  case ldVxK x =>
    simp only [exec, execLdVxK, State.setSt_cfg, State.waitLevel_setSt, State.waitEdge_setSt] at h ⊢
    cases hc : s.cfg.fx0aTrigger <;> rw [hc] at h <;> cases h <;> rfl
  all_goals
    obtain rfl := Host.Outcome.next.inj h
    rfl

/-- Settles O21: FX18 overwrites ST, and every other instruction commutes with a write of it. -/
theorem soundTimerIsNeverRead : Obligations.SoundTimerIsNeverRead := by
  intro i s t b h
  constructor
  · rintro ⟨x, rfl⟩
    obtain rfl := Host.Outcome.next.inj h
    rfl
  · exact fun hi => exec_setSt b hi h

/-! ## Call and return -/

/-- 2NNN below depth 16: the slot holds the call's own address (40_control R92). -/
theorem exec_call_next (nnn : Addr12) (h : s.sp.val < 16) : exec (.call nnn) s = .next
    { s with stack := s.stack.set s.sp.val s.pc h, sp := ⟨s.sp.val + 1, by omega⟩, pc := addrWord nnn } := by
  simp only [exec, execCall, State.push_ok s.pc h]
  rfl

/-- 00EE at depth `k + 1`: the address in slot `k`, plus 2 (40_control R90). -/
theorem exec_ret_next (k : Fin 16) (h : s.sp.val = k.val + 1) :
    exec .ret s = .next { s with sp := k.castSucc, pc := s.slot k + 2 } := by
  have hsp : s.sp = k.succ := Fin.ext h
  have hpos : 0 < s.sp.val := by omega
  simp only [exec, execRet, State.pop_ok hpos, hsp]
  rfl

/-- Settles O32: the return finds in the slot the call wrote the call's own address. -/
theorem returnAfterCallResumesAfterTheCall : Obligations.ReturnAfterCallResumesAfterTheCall := by
  intro s t u nnn hlt hcall hstack hsp
  obtain rfl := Host.Outcome.next.inj ((exec_call_next nnn hlt).symm.trans hcall)
  have hslot : u.slot ⟨s.sp.val, hlt⟩ = s.pc := by simp [State.slot, hstack]
  refine ⟨_, exec_ret_next ⟨s.sp.val, hlt⟩ (congrArg Fin.val hsp), ?_, rfl⟩
  exact congrArg (· + 2) hslot

/-! ## The invariant: reset and INIT -/

theorem inv_resetWith (cfg : Params) : (State.resetWith cfg).Inv := by
  have hsnap (k : Key) : (State.resetWith cfg).snapped k = false := Vector.getElem_replicate _
  have hslot (k : Fin 16) : (State.resetWith cfg).slot k = 0 := Vector.getElem_replicate _
  refine ⟨State.reset_memory_wf cfg, ⟨iff_of_true rfl rfl, fun _ => ⟨rfl, rfl⟩⟩, fun _ => ⟨rfl, hsnap⟩, fun k => ?_, ?_⟩
  · simp [hslot k]
  · simp [State.PcOk, State.resetWith]

/-- Settles O14: the reset state of any parameters meets the invariant, and `State.reset` is that of the defaults. -/
theorem resetSatisfiesTheInvariant : Obligations.ResetSatisfiesTheInvariant :=
  ⟨inv_resetWith, inv_resetWith defaultParams⟩

/-- Settles O53: INIT leaves the reset state of the same parameters, but for the model's own fields. -/
theorem initResetsEveryField : Obligations.InitResetsEveryField :=
  fun s => ⟨holdsResetValues_resetWith s.cfg, rfl, rfl, rfl⟩

/-! ## The invariant: what every step keeps -/

theorem inv_setOp (hs : s.Inv) (w : Word) : (s.setOp w).Inv := hs

theorem inv_raise (hs : s.Inv) (c : Cause) : (s.raise c).Inv := by
  obtain ⟨hmem, -, hwait, hstack, hpc⟩ := hs
  exact ⟨hmem, ⟨by simp, by simp⟩, hwait, hstack, hpc⟩

theorem inv_setWait_false (hs : s.Inv) : (s.setWait false).Inv := by
  obtain ⟨hmem, hrec, hwait, hstack, hpc⟩ := hs
  exact ⟨hmem, hrec, fun hl => ⟨rfl, (hwait hl).2⟩, hstack, hpc⟩

theorem inv_afterExec (hs : s.Inv) (i : Instr) : (s.afterExec i).Inv := by
  unfold State.afterExec
  split
  · exact hs
  · exact inv_setWait_false hs

/-- From a fetch origin, at most 0xFFE, PC + 2 and PC + 4 stay within the bound of 10_state R26. -/
theorem pcOk_of_skip (hpc : s.pc.toNat ≤ 0xFFE) (c : Bool) : (s.skipIf c).PcOk := by
  cases c <;> simp [State.PcOk] <;> omega

theorem pcOk_of_advance (hpc : s.pc.toNat ≤ 0xFFE) : s.advance.PcOk := pcOk_of_skip hpc false

theorem inv_decodeError (hs : s.Inv) (hpc : s.pc.toNat ≤ 0xFFE) (w : Word) : (s.decodeError w).Inv := by
  obtain ⟨hmem, hrec, hwait, hstack, -⟩ := inv_setWait_false hs
  exact ⟨hmem, hrec, hwait, hstack, pcOk_of_advance hpc⟩

theorem pcOk_of_addr (nnn : Addr12) (hpc : s.pc = addrWord nnn) : s.PcOk := by
  have hn := nnn.isLt
  simp only [State.PcOk, hpc, addrWord, BitVec.toNat_setWidth]
  omega

/-- The highest target of BNNN is 0xFFF + 0xFF (40_control R93). -/
theorem State.offsetTarget_le (s : State) (nnn : Addr12) : (s.offsetTarget nnn).toNat ≤ 0x10FE := by
  have hn := nnn.isLt
  have hv := (s.getV 0).isLt
  simp only [State.offsetTarget, BitVec.toNat_ofNat]
  omega

/-- Every own effect leaves PC within the bound of 10_state R26. -/
theorem ownEffect_pcOk (h : OwnEffect s t i) (hpc : s.pc.toNat ≤ 0xFFE) (hs : s.StackOk) : t.PcOk := by
  cases i
  case jp nnn =>
    obtain rfl := Host.Outcome.next.inj h
    exact pcOk_of_addr nnn rfl
  case call nnn =>
    obtain ⟨u, -, rfl⟩ := h
    exact pcOk_of_addr nnn rfl
  case jpV0 nnn =>
    obtain rfl := Host.Outcome.next.inj h
    exact s.offsetTarget_le nnn
  case ret =>
    obtain ⟨w, u, hu, rfl⟩ := h
    obtain ⟨hsp, rfl, -⟩ := State.pop_eq_ok.1 hu
    have hslot := hs ⟨s.sp.val - 1, by omega⟩
    simp only [State.slot] at hslot
    simp only [State.PcOk, State.setPc_pc, BitVec.toNat_add, BitVec.reduceToNat]
    omega
  case seImm | sneImm | seReg | sneReg =>
    obtain rfl := Host.Outcome.next.inj h
    exact pcOk_of_skip hpc _
  case skp | sknp =>
    obtain ⟨-, -, rfl⟩ := h
    exact pcOk_of_skip hpc _
  case ldVxK =>
    have hstay : s.PcOk := by simp only [State.PcOk]; omega
    obtain ⟨-, rfl | ⟨k, ks, -, rfl⟩⟩ | ⟨-, rfl | rfl | ⟨k, ks, -, rfl⟩⟩ := exec_ldVxK_cases h
    · exact hstay
    · exact pcOk_of_advance hpc
    · exact hstay
    · exact hstay
    · exact pcOk_of_advance hpc
  case ldB | stRegs =>
    obtain ⟨u, hu, rfl⟩ := h
    obtain ⟨-, rfl⟩ := State.store_eq_ok.1 hu
    exact pcOk_of_advance hpc
  case drw | ldRegs =>
    obtain ⟨-, -, rfl⟩ := h
    exact pcOk_of_advance hpc
  all_goals
    obtain rfl := Host.Outcome.next.inj h
    exact pcOk_of_advance hpc

/-- The one slot an own effect writes gets the address of the call, which was fetched (40_control R90, R92). -/
theorem ownEffect_stackOk (h : OwnEffect s t i) (hpc : s.pc.toNat ≤ 0xFFE) (hs : s.StackOk) : t.StackOk := by
  obtain hstack | ⟨nnn, rfl⟩ := frame_stack (ownEffect_frame h)
  · simpa only [State.StackOk, State.slot, hstack] using hs
  · obtain ⟨u, hu, rfl⟩ := h
    obtain ⟨hsp, rfl⟩ := State.push_eq_ok.1 hu
    intro k
    simp only [State.slot, State.setPc_stack, Vector.getElem_set]
    split
    · exact hpc
    · exact hs k

/-- Every own effect keeps memory in canonical form (log 7). -/
theorem ownEffect_memory_wf (h : OwnEffect s t i) (hs : Memory.wf s.cfg.font s.mem = true) :
    Memory.wf t.cfg.font t.mem = true := by
  obtain hmem | ⟨x, rfl | rfl⟩ := frame_mem (ownEffect_frame h)
  · obtain ⟨-, -, hcfg, -⟩ := ownEffect_sameUnwritten h
    rw [hmem, hcfg]
    exact hs
  all_goals
    obtain ⟨u, hu, rfl⟩ := h
    exact (State.wf_of_store hu hs :)

/-- In LEVEL mode every own effect leaves WAIT and KSNAP as they are (10_state R35). -/
theorem ownEffect_waitUnused (h : OwnEffect s t i) (hs : s.WaitUnused) : t.WaitUnused := by
  intro hl
  obtain ⟨-, -, hcfg, -⟩ := ownEffect_sameUnwritten h
  rw [hcfg] at hl
  obtain ⟨hw, hk⟩ | ⟨he, -⟩ := ownEffect_wait h
  · simpa only [State.snapped, hw, hk] using hs hl
  · rw [hl] at he
    cases he

theorem ownEffect_faultRecordOk (h : OwnEffect s t i) (hs : s.FaultRecordOk) : t.FaultRecordOk := by
  obtain ⟨hfault, hcause, hpc, hop⟩ := frame_faultRecord (ownEffect_frame h)
  simpa only [State.FaultRecordOk, hfault, hcause, hpc, hop] using hs

/-- An instruction that was fetched keeps the invariant, whether it takes its fault or not. -/
theorem exec_inv (h : exec i s = .next t) (hs : s.Inv) (hpc : s.pc.toNat ≤ 0xFFE) : t.Inv := by
  obtain ho | ⟨c, -, rfl⟩ := exec_cases h
  · obtain ⟨hmem, hrec, hwait, hstack, -⟩ := hs
    exact ⟨ownEffect_memory_wf ho hmem, ownEffect_faultRecordOk ho hrec, ownEffect_waitUnused ho hwait,
      ownEffect_stackOk ho hpc hstack, ownEffect_pcOk ho hpc hstack⟩
  · exact inv_raise hs c

/-- Settles O15: a fetch fault, a decode error and an executed instruction each keep the invariant. -/
theorem stepKeepsTheInvariant : Obligations.StepKeepsTheInvariant := by
  intro s t hs h
  obtain ⟨-, ⟨-, rfl⟩ | ⟨hpc, w, -, ⟨-, rfl⟩ | ⟨i, u, -, hu, rfl⟩⟩⟩ := step_cases h
  · exact inv_raise hs .fetchRange
  · exact inv_decodeError (inv_setOp hs w) hpc w
  · exact inv_afterExec (exec_inv hu (inv_setOp hs w) hpc) i

end Sys2Proof.Machine
end

section
/-! Decoding what was encoded (spec/30_encoding.md R71, R72, spec/20_memory.md R53): each field of an encoded form reads back as the
operand it was made of, and the dispatch of R74 takes the way of the instruction's row. -/

namespace Sys2Proof

section Fields

variable (f : BitVec 4) (x y : Reg) (n : Fin 16) (nn : Byte) (nnn : Addr12)

/-! ## The fields of each form -/

@[simp] theorem fieldF_encodeXNN : fieldF (encodeXNN f x nn) = f.toNat := by
  rw [fieldF_eq, encodeXNN_toNat]
  omega

@[simp] theorem fieldX_encodeXNN : fieldX (encodeXNN f x nn) = x := by
  apply Fin.ext
  rw [fieldX_eq, encodeXNN_toNat]
  omega

@[simp] theorem fieldNN_encodeXNN : fieldNN (encodeXNN f x nn) = nn := by
  apply BitVec.eq_of_toNat_eq
  rw [fieldNN_eq, encodeXNN_toNat]
  omega

@[simp] theorem fieldF_encodeXYN : fieldF (encodeXYN f x y n) = f.toNat := by
  rw [fieldF_eq, encodeXYN_toNat]
  omega

@[simp] theorem fieldX_encodeXYN : fieldX (encodeXYN f x y n) = x := by
  apply Fin.ext
  rw [fieldX_eq, encodeXYN_toNat]
  omega

@[simp] theorem fieldY_encodeXYN : fieldY (encodeXYN f x y n) = y := by
  apply Fin.ext
  rw [fieldY_eq, encodeXYN_toNat]
  omega

@[simp] theorem fieldN_encodeXYN : fieldN (encodeXYN f x y n) = n := by
  apply Fin.ext
  rw [fieldN_eq, encodeXYN_toNat]
  omega

@[simp] theorem fieldF_encodeNNN : fieldF (encodeNNN f nnn) = f.toNat := by
  rw [fieldF_eq, encodeNNN_toNat]
  omega

@[simp] theorem fieldNNN_encodeNNN : fieldNNN (encodeNNN f nnn) = nnn := by
  apply BitVec.eq_of_toNat_eq
  rw [fieldNNN_eq, encodeNNN_toNat]
  omega

end Fields

/-! ## The dispatch on each form -/

/-- The decoder inverts the encoder on every instruction, by the family of its word (30_encoding R72, R74). -/
theorem decodeWord_encode (i : Instr) : decodeWord (encode i) = some i := by
  cases i
  case cls | ret => rfl
  case jp | call | seImm | sneImm | seReg | ldImm | addImm | sneReg | ldI | jpV0 | rnd | drw =>
    simp [encode, decodeWord]
  case ldReg | orReg | andReg | xorReg | addReg | subReg | shr | subnReg | shl =>
    simp [encode, decodeWord, decodeFamily8]
  case skp | sknp => simp [encode, decodeWord, decodeFamilyE]
  case ldVxDt | ldVxK | ldDtVx | ldStVx | addI | ldF | ldB | stRegs | ldRegs =>
    simp [encode, decodeWord, decodeFamilyF]

/-- The bytes of a word that decodes, in memory order: the instruction, and the bytes after it (30_encoding R75). -/
theorem decodeBytes_bytesOfWord {w : Word} {i : Instr} (h : decodeWord w = some i) (rest : List Byte) :
    decodeBytes ((bytesOfWord w).1 :: (bytesOfWord w).2 :: rest) = .ok (i, rest) := by
  simp only [decodeBytes, wordOfBytes_bytesOfWord, h]

/-- Settles O2: the bytes of the word read back as the word, and the decoder inverts the encoder. -/
theorem decodeOfEncode : Obligations.DecodeOfEncode :=
  fun i rest => decodeBytes_bytesOfWord (decodeWord_encode i) rest

end Sys2Proof
end

section
/-! Memory as the step sees it (spec/20_memory.md R53, R54, R65, spec/30_encoding.md R70): the invariant under the host's
transactions, the fetch, the step as an equation for each of its outcomes, and the fetch of bytes stored before it. -/

namespace Sys2Proof.Machine

variable {s t : State} {i : Instr} {w : Word}

/-! ## The invariant under the host's transactions -/

/-- INIT leaves the invariant whatever the state before it was: none of its terms reads the draws or the events. -/
theorem inv_init (s : State) : s.init.Inv := inv_resetWith s.cfg

theorem inv_setMem {m : Memory} (hs : s.Inv) (hm : Memory.wf s.cfg.font m = true) : (s.setMem m).Inv := by
  obtain ⟨-, hrest⟩ := hs
  exact ⟨hm, hrest⟩

/-- The longest image ends at the last byte of memory, so LOAD keeps the canonical form (60_exceptions R207, R224). -/
theorem inv_loadTransaction (hs : s.Inv) (bytes : List Byte) : (s.loadTransaction bytes).1.Inv := by
  obtain ⟨hlen, h⟩ | ⟨-, h⟩ := s.loadTransaction_cases bytes <;> rw [h]
  · have hrange : progBase + bytes.length ≤ memSize := Nat.add_le_add_left hlen progBase
    exact inv_setMem hs (Memory.wf_writeList _ hs.1 hrange)
  · exact hs

theorem inv_stepTransaction (hs : s.Inv) : s.stepTransaction.1.Inv := by
  obtain h | h := s.stepTransaction_fst_cases
  · exact stepKeepsTheInvariant s _ hs h
  · rw [h]
    exact hs

/-- Timers, keypad and DRAW stand in no term of the invariant, so TICK, KEYSET and DRAWACK keep it as it is. -/
theorem inv_transact (tr : Transaction) (hs : s.Inv) : (s.transact tr).1.Inv := by
  cases tr with
  | step => exact inv_stepTransaction hs
  | init => exact inv_init s
  | load bytes => exact inv_loadTransaction hs bytes
  | tick | keySet | drawAck | read => exact hs

/-- Settles O16, by induction over the transactions: each keeps the invariant. -/
theorem everyInterleavingKeepsTheInvariant : Obligations.EveryInterleavingKeepsTheInvariant :=
  fun _ ts hs => State.transactAll_keeps (fun _ tr => inv_transact tr) ts hs

/-! ## The fetch -/

theorem State.fetchWord_ok (h : s.pc.toNat ≤ 0xFFE) :
    s.fetchWord = .ok (wordOfBytes (s.peek s.pc.toNat) (s.peek (s.pc.toNat + 1))) := by
  obtain ⟨-, e⟩ | ⟨hp, -⟩ := s.fetchWord_cases
  · exact e
  · omega

theorem State.fetchWord_range (h : 0xFFE < s.pc.toNat) : s.fetchWord = .error .fetchRange := by
  obtain ⟨hp, -⟩ | ⟨-, e⟩ := s.fetchWord_cases
  · omega
  · exact e

/-- Settles O9: the word of the two bytes, as a number. -/
theorem fetchIsBigEndianAndUnaligned : Obligations.FetchIsBigEndianAndUnaligned :=
  fun _ => ⟨State.fetchWord_range, fun h => ⟨_, State.fetchWord_ok h, wordOfBytes_toNat ..⟩⟩

/-- The fetched word, given as the number its two bytes make (20_memory R53). -/
theorem State.fetchWord_of_toNat (h : s.pc.toNat ≤ 0xFFE)
    (hw : w.toNat = (s.peek s.pc.toNat).toNat * 256 + (s.peek (s.pc.toNat + 1)).toNat) : s.fetchWord = .ok w := by
  rw [State.fetchWord_ok h]
  exact congrArg Except.ok (BitVec.eq_of_toNat_eq ((wordOfBytes_toNat ..).trans hw.symm))

/-! ## The step, one equation per outcome (30_encoding R70) -/

theorem step_halted (hf : s.fault = true) : step s = .fault .halted := by
  simp [step, State.cycle, hf]

theorem step_fetchRange (hf : s.fault = false) (hpc : 0xFFE < s.pc.toNat) : step s = .next (s.raise .fetchRange) := by
  simp [step, State.cycle, hf, State.fetchWord_range hpc]

theorem step_unassigned (hf : s.fault = false) (hw : s.fetchWord = .ok w) (hd : decodeWord w = none) :
    step s = .next ((s.setOp w).decodeError w) := by
  simp [step, State.cycle, State.runWord, hf, hw, hd]

theorem step_decoded (hf : s.fault = false) (hw : s.fetchWord = .ok w) (hd : decodeWord w = some i) :
    step s = finishStep i (exec i (s.setOp w)) := by
  simp [step, State.cycle, State.runWord, hf, hw, hd]

theorem keepsWait_iff : keepsWait i = true ↔ ∃ x, i = .ldVxK x := by
  cases i <;> simp [keepsWait]

/-- FX0A and a fault leave WAIT alone (30_encoding R70). -/
theorem State.afterExec_of_keeps (h : (∃ x, i = .ldVxK x) ∨ t.fault = true) : t.afterExec i = t := by
  simp [State.afterExec, keepsWait_iff, h]

theorem State.afterExec_of_clears (hi : ∀ x, i ≠ .ldVxK x) (hf : t.fault = false) : t.afterExec i = t.setWait false := by
  simp [State.afterExec, keepsWait_iff, hi, hf]

/-- Settles O7: the step's equation for each outcome, with what it adds after an executed instruction. -/
theorem stepFetchesDecodesExecutes : Obligations.StepFetchesDecodesExecutes := by
  intro s
  refine ⟨step_halted, step_fetchRange, fun hf hpc w hw => ?_⟩
  have hfetch : s.fetchWord = .ok w := State.fetchWord_of_toNat hpc hw
  refine ⟨step_unassigned hf hfetch, fun i t hd he => ?_⟩
  have hstep : step s = .next (t.afterExec i) :=
    (step_decoded hf hfetch hd).trans (congrArg (finishStep i) he)
  rw [hstep]
  exact ⟨fun h => congrArg _ (State.afterExec_of_keeps h), fun hi ht => congrArg _ (State.afterExec_of_clears hi ht)⟩

/-! ## A fetch of bytes stored before it (20_memory R65) -/

theorem State.store_ok {a : Nat} {bs : List Byte} (h : a + bs.length ≤ memSize) :
    s.store a bs = .ok (s.setMem (Memory.writeList s.cfg.font s.mem a bs)) :=
  State.store_eq_ok.2 ⟨rangeOk_iff.2 (.inr h), rfl⟩

/-- The bytes stored are the bytes read, by their offset in the store (20_memory R52). -/
theorem State.peek_of_store_inside {a k : Nat} {bs : List Byte} (h : s.store a bs = .ok t) (hk : k < bs.length) :
    t.peek (a + k) = bs.getD k 0 := by
  rw [State.peek_of_store h, if_pos (by omega), Nat.add_sub_cancel_left]

theorem State.store_placeWord (hpc : s.pc.toNat ≤ 0xFFE) (w : Word) :
    s.store s.pc.toNat [(bytesOfWord w).1, (bytesOfWord w).2] = .ok (s.placeWord w) := by
  have hlen : s.pc.toNat + [(bytesOfWord w).1, (bytesOfWord w).2].length ≤ memSize := Nat.add_le_add_right hpc 2
  simp only [State.placeWord, State.store_ok hlen]

theorem State.placeWord_frame (s : State) (w : Word) : s.placeWord w = { s with mem := (s.placeWord w).mem } := by
  unfold State.placeWord
  obtain ⟨-, h⟩ | ⟨-, h⟩ := s.store_cases s.pc.toNat [(bytesOfWord w).1, (bytesOfWord w).2]
  · rw [h]
    rfl
  · rw [h]

@[simp] theorem State.placeWord_pc (s : State) (w : Word) : (s.placeWord w).pc = s.pc := by
  rw [State.placeWord_frame]

@[simp] theorem State.placeWord_fault (s : State) (w : Word) : (s.placeWord w).fault = s.fault := by
  rw [State.placeWord_frame]

/-- The next fetch reads the word placed at PC. -/
theorem State.fetchWord_placeWord (hpc : s.pc.toNat ≤ 0xFFE) (w : Word) : (s.placeWord w).fetchWord = .ok w := by
  have hstore := State.store_placeWord hpc w
  have hhi : (s.placeWord w).peek s.pc.toNat = (bytesOfWord w).1 := State.peek_of_store_inside (k := 0) hstore (by simp)
  have hlo : (s.placeWord w).peek (s.pc.toNat + 1) = (bytesOfWord w).2 := State.peek_of_store_inside hstore (by simp)
  rw [State.fetchWord_ok (by simpa using hpc), State.placeWord_pc, hhi, hlo, wordOfBytes_bytesOfWord]

/-- Settles O8: the next fetch reads the placed word, which decodes to the instruction. -/
theorem placedInstructionIsRunByTheNextStep : Obligations.PlacedInstructionIsRunByTheNextStep :=
  fun s i hf hpc =>
    step_decoded ((s.placeWord_fault _).trans hf) (State.fetchWord_placeWord hpc (encode i)) (decodeWord_encode i)

/-- FX55 whose whole range lies at or below 0xFFF stores V[0..X] (42_index_memory R144). -/
theorem exec_stRegs_next (x : Reg) (h : s.base + x.val ≤ 0xFFF) :
    ∃ u, s.store s.base (s.regsUpTo x) = .ok u ∧ exec (.stRegs x) s = .next (u.setIndex (s.indexAfter x)).advance := by
  have hlen : s.base + (s.regsUpTo x).length ≤ memSize := by
    rw [State.regsUpTo_length]
    exact Nat.succ_le_succ h
  refine ⟨_, State.store_ok hlen, ?_⟩
  simp only [exec, execStRegs, State.store_ok hlen]
  rfl

/-- After FX55 the byte at I + k is V[k] (42_index_memory R144). -/
theorem State.peek_of_store_regsUpTo {x k : Reg} (h : s.store s.base (s.regsUpTo x) = .ok t) (hk : k ≤ x) :
    t.peek (s.base + k.val) = s.getV k := by
  have hlt : k.val < (s.regsUpTo x).length := by
    rw [State.regsUpTo_length]
    exact Nat.lt_succ_of_le hk
  rw [State.peek_of_store_inside h hlt, State.regsUpTo_getD s hk]

/-- Settles O41: the two bytes the next fetch reads are the first two that FX55 stored. -/
theorem storeIsSeenByTheNextFetch : Obligations.StoreIsSeenByTheNextFetch := by
  intro s t x hx hbase hrange h
  obtain ⟨u, hu, he⟩ := exec_stRegs_next x hrange
  obtain rfl := Host.Outcome.next.inj (he.symm.trans h)
  obtain ⟨-, hmem⟩ := State.store_eq_ok.1 hu
  have hpc : ((u.setIndex (s.indexAfter x)).advance).pc.toNat = s.base := by
    rw [hmem]
    simp only [State.advance_pc, State.setIndex_pc, State.setMem_pc, BitVec.toNat_add, BitVec.reduceToNat]
    omega
  have hhi : u.peek s.base = s.getV 0 := State.peek_of_store_regsUpTo (k := 0) hu (Fin.zero_le x)
  have hlo : u.peek (s.base + 1) = s.getV 1 := State.peek_of_store_regsUpTo (k := 1) hu (Fin.le_def.2 hx)
  refine ⟨_, State.fetchWord_ok (by omega), ?_⟩
  rw [wordOfBytes_toNat, hpc, State.advance_peek, State.advance_peek, State.setIndex_peek, State.setIndex_peek, hhi, hlo]

/-! ## Every instruction answers -/

/-- An instruction with a check answers a next state whichever way the check goes (60_exceptions R201). -/
theorem State.orRaise_answers (s : State) (r : Except Cause State) : ∃ t, s.orRaise r = .next t := by
  cases r with
  | ok u => exact ⟨u, rfl⟩
  | error c => exact ⟨s.raise c, rfl⟩

/-- Settles O13: an instruction with a check answers either way, FX0A in both modes, and every other by its one equation. -/
theorem everyInstructionAnswersANextState : Obligations.EveryInstructionAnswersANextState := by
  intro i s
  cases i
  case ret | call | drw | skp | sknp | ldB | stRegs | ldRegs => exact s.orRaise_answers _
  case ldVxK x =>
    cases hc : s.cfg.fx0aTrigger with
    | level => exact ⟨s.waitLevel x, by simp only [exec, execLdVxK, hc]⟩
    | edge => exact ⟨s.waitEdge x, by simp only [exec, execLdVxK, hc]⟩
  all_goals exact ⟨_, rfl⟩

end Sys2Proof.Machine
end

section
/-! The decoder against the opcode table (spec/30_encoding.md R71, R72, R77, R78): the fields of a word spell the word, a row's mask
fixes exactly the fields the dispatch of R74 looks at, and what the dispatch refuses is listed family by family. -/

namespace Sys2Proof

variable {w : Word} {i : Instr}

/-! ## A word from its fields -/

theorem encodeXNN_fields {f : BitVec 4} {nn : Byte} (hf : fieldF w = f.toNat) (hnn : fieldNN w = nn) :
    encodeXNN f (fieldX w) nn = w := by
  apply BitVec.eq_of_toNat_eq
  rw [encodeXNN_toNat, ← hnn, ← hf, fieldF_eq, fieldX_eq, fieldNN_eq]
  omega

theorem encodeXYN_fields {f : BitVec 4} {n : Fin 16} (hf : fieldF w = f.toNat) (hn : (fieldN w).val = n.val) :
    encodeXYN f (fieldX w) (fieldY w) n = w := by
  apply BitVec.eq_of_toNat_eq
  rw [encodeXYN_toNat, ← hn, ← hf, fieldF_eq, fieldX_eq, fieldY_eq, fieldN_eq]
  omega

theorem encodeNNN_fields {f : BitVec 4} (hf : fieldF w = f.toNat) : encodeNNN f (fieldNNN w) = w := by
  apply BitVec.eq_of_toNat_eq
  rw [encodeNNN_toNat, ← hf, fieldF_eq, fieldNNN_eq]
  omega

theorem fieldF_lt (w : Word) : fieldF w < 16 := BitVec.isLt _

/-! ## The word of what was decoded -/

theorem encode_of_decodeFamily0 (h : decodeFamily0 w = some i) : encode i = w := by
  unfold decodeFamily0 at h
  split_ifs at h with h0 h1 <;> cases h
  · exact h0.symm
  · exact h1.symm

theorem encode_of_decodeFamily8 (hf : fieldF w = 0x8) (h : decodeFamily8 w = some i) : encode i = w := by
  unfold decodeFamily8 at h
  split at h <;> cases h <;> exact encodeXYN_fields hf ‹_›

theorem encode_of_decodeFamilyE (hf : fieldF w = 0xE) (h : decodeFamilyE w = some i) : encode i = w := by
  unfold decodeFamilyE at h
  split_ifs at h <;> cases h <;> exact encodeXNN_fields hf ‹_›

theorem encode_of_decodeFamilyF (hf : fieldF w = 0xF) (h : decodeFamilyF w = some i) : encode i = w := by
  unfold decodeFamilyF at h
  split_ifs at h <;> cases h <;> exact encodeXNN_fields hf ‹_›

/-- Decoding drops no bit: what the dispatch does not look at is an operand (30_encoding R71, R78). -/
theorem encode_of_decodeWord (h : decodeWord w = some i) : encode i = w := by
  unfold decodeWord at h
  split at h
  case h_1 => exact encode_of_decodeFamily0 h
  case h_2 hf | h_3 hf | h_11 hf | h_12 hf =>
    cases h
    exact encodeNNN_fields hf
  case h_4 hf | h_5 hf | h_7 hf | h_8 hf | h_13 hf =>
    cases h
    exact encodeXNN_fields hf rfl
  case h_6 hf | h_10 hf =>
    split_ifs at h with hn
    cases h
    exact encodeXYN_fields hf hn
  case h_9 hf => exact encode_of_decodeFamily8 hf h
  case h_14 hf =>
    cases h
    exact encodeXYN_fields hf rfl
  case h_15 hf => exact encode_of_decodeFamilyE hf h
  case h_16 =>
    have hlt := fieldF_lt w
    exact encode_of_decodeFamilyF (by grind) h

/-- Settles O3: the fields the dispatch reads as operands, with those it selects by, spell the whole word. -/
theorem encodeOfDecode : Obligations.EncodeOfDecode := fun _ _ => encode_of_decodeWord

/-! ## What a row's mask fixes -/

theorem fieldF_of_mask_F000 {v : Word} (h : w &&& 0xF000#16 = v) : fieldF w = fieldF v := by
  rw [fieldF_eq, fieldF_eq, ← h, and_mask_F000]
  omega

theorem fields_of_mask_F00F {v : Word} (h : w &&& 0xF00F#16 = v) :
    fieldF w = fieldF v ∧ fieldN w = fieldN v := by
  refine ⟨?_, Fin.ext ?_⟩
  · rw [fieldF_eq, fieldF_eq, ← h, and_mask_F00F]
    omega
  · rw [fieldN_eq, fieldN_eq, ← h, and_mask_F00F]
    omega

theorem fields_of_mask_F0FF {v : Word} (h : w &&& 0xF0FF#16 = v) :
    fieldF w = fieldF v ∧ fieldNN w = fieldNN v := by
  refine ⟨?_, BitVec.eq_of_toNat_eq ?_⟩
  · rw [fieldF_eq, fieldF_eq, ← h, and_mask_F0FF]
    omega
  · rw [fieldNN_eq, fieldNN_eq, ← h, and_mask_F0FF]
    omega

theorem fieldNN_ofNat (n : Nat) : fieldNN (BitVec.ofNat 16 n) = BitVec.ofNat 8 n := by
  apply BitVec.eq_of_toNat_eq
  rw [fieldNN_eq, BitVec.toNat_ofNat, BitVec.toNat_ofNat]
  omega

/-! ## The rows the decoder finds -/

/-- A word under an instruction's row decodes to an instruction of that row (30_encoding R72, R78). -/
theorem decodeWord_of_row (i : Instr) (h : w &&& i.row.mask = i.row.value) :
    ∃ j, decodeWord w = some j ∧ j.row = i.row := by
  cases i
  case cls | ret =>
    obtain rfl := (and_mask_FFFF w).symm.trans h
    exact ⟨_, rfl, rfl⟩
  case jp | call | seImm | sneImm | ldImm | addImm | ldI | jpV0 | rnd | drw =>
    have hf := fieldF_of_mask_F000 h
    simp [decodeWord, hf, Instr.row, fieldF_eq]
  case seReg | sneReg =>
    obtain ⟨hf, hn⟩ := fields_of_mask_F00F h
    simp [decodeWord, hf, hn, Instr.row, fieldF_eq, fieldN_eq]
  case ldReg | orReg | andReg | xorReg | addReg | subReg | shr | subnReg | shl =>
    obtain ⟨hf, hn⟩ := fields_of_mask_F00F h
    simp [decodeWord, decodeFamily8, hf, hn, Instr.row, fieldF_eq, fieldN_eq]
  case skp | sknp =>
    obtain ⟨hf, hnn⟩ := fields_of_mask_F0FF h
    simp [decodeWord, decodeFamilyE, hf, hnn, Instr.row, fieldF_eq, fieldNN_ofNat]
  case ldVxDt | ldVxK | ldDtVx | ldStVx | addI | ldF | ldB | stRegs | ldRegs =>
    obtain ⟨hf, hnn⟩ := fields_of_mask_F0FF h
    simp [decodeWord, decodeFamilyF, hf, hnn, Instr.row, fieldF_eq, fieldNN_ofNat]

/-- Every row of the table is the row of an instruction. -/
theorem exists_row_of_mem {r : OpcodeRow} (h : r ∈ opcodeTable) : ∃ i : Instr, i.row = r := by
  obtain ⟨i, -, hi⟩ := List.mem_map.1 h
  exact ⟨i, hi⟩

theorem decodeWord_of_mem {r : OpcodeRow} (hr : r ∈ opcodeTable) (h : w &&& r.mask = r.value) :
    ∃ j, decodeWord w = some j ∧ j.row = r := by
  obtain ⟨i, rfl⟩ := exists_row_of_mem hr
  exact decodeWord_of_row i h

open Laws.EncodedInRow in
/-- The lemmas of Laws/PerInstr.lean as one: the encoder's word lies in the instruction's row (30_encoding R72). -/
theorem encode_in_row : ∀ i : Instr, Statement i
  | .cls => cls
  | .ret => ret
  | .jp n => jp n
  | .call n => call n
  | .seImm x nn => seImm x nn
  | .sneImm x nn => sneImm x nn
  | .seReg x y => seReg x y
  | .ldImm x nn => ldImm x nn
  | .addImm x nn => addImm x nn
  | .ldReg x y => ldReg x y
  | .orReg x y => orReg x y
  | .andReg x y => andReg x y
  | .xorReg x y => xorReg x y
  | .addReg x y => addReg x y
  | .subReg x y => subReg x y
  | .shr x y => shr x y
  | .subnReg x y => subnReg x y
  | .shl x y => shl x y
  | .sneReg x y => sneReg x y
  | .ldI n => ldI n
  | .jpV0 n => jpV0 n
  | .rnd x nn => rnd x nn
  | .drw x y n => drw x y n
  | .skp x => skp x
  | .sknp x => sknp x
  | .ldVxDt x => ldVxDt x
  | .ldVxK x => ldVxK x
  | .ldDtVx x => ldDtVx x
  | .ldStVx x => ldStVx x
  | .addI x => addI x
  | .ldF x => ldF x
  | .ldB x => ldB x
  | .stRegs x => stRegs x
  | .ldRegs x => ldRegs x

/-- Settles O4: a word that decodes is the encoder's word, which lies in its row, and a word in a row decodes. -/
theorem decodeMatchesOpcodeTable : Obligations.DecodeMatchesOpcodeTable := by
  refine ⟨rfl, fun w => ⟨fun i hi => ?_, fun hnone r hr hw => ?_⟩⟩
  · obtain rfl := encode_of_decodeWord hi
    exact (encode_in_row i).symm
  · obtain ⟨j, hj, -⟩ := decodeWord_of_mem hr hw
    rw [hnone] at hj
    cases hj

/-- Settles O5: two rows that admit a word are both the row of the one instruction it decodes to. -/
theorem opcodeRowsDisjoint : Obligations.OpcodeRowsDisjoint := by
  refine ⟨fun w r q hr hq hwr hwq => ?_, fun _ _ i _ hu => decodeWord_of_row i hu⟩
  obtain ⟨j, hj, rfl⟩ := decodeWord_of_mem hr (beq_iff_eq.1 hwr)
  obtain ⟨k, hk, rfl⟩ := decodeWord_of_mem hq (beq_iff_eq.1 hwq)
  obtain rfl := Option.some.inj (hj.symm.trans hk)
  rfl

/-! ## What the dispatch refuses -/

theorem decodeFamily0_eq_none : decodeFamily0 w = none ↔ w ≠ 0x00E0 ∧ w ≠ 0x00EE := by
  unfold decodeFamily0
  split_ifs <;> simp_all

theorem decodeFamily8_eq_none : decodeFamily8 w = none ↔ fieldN w ∈ [8, 9, 0xA, 0xB, 0xC, 0xD, 0xF] := by
  unfold decodeFamily8
  generalize fieldN w = n
  fin_cases n <;> simp

theorem decodeFamilyE_eq_none : decodeFamilyE w = none ↔ fieldNN w ∉ [0x9E, 0xA1] := by
  unfold decodeFamilyE
  split_ifs <;> simp_all

theorem decodeFamilyF_eq_none : decodeFamilyF w = none ↔
    fieldNN w ∉ [0x07, 0x0A, 0x15, 0x18, 0x1E, 0x29, 0x33, 0x55, 0x65] := by
  unfold decodeFamilyF
  split_ifs <;> simp_all

/-- Settles O6: of the sixteen families, six refuse a word, each by its own selector. -/
theorem decodeErrorWordsByFamily : Obligations.DecodeErrorWordsByFamily := by
  intro w
  have hlt := fieldF_lt w
  have hn : (fieldN w).val = 0 ↔ fieldN w = 0 := Fin.val_eq_zero_iff
  interval_cases hf : fieldF w <;>
    simp [decodeWord, hf, hn, decodeFamily0_eq_none, decodeFamily8_eq_none, decodeFamilyE_eq_none, decodeFamilyF_eq_none]

/-- Settles O1: ten closed words through the dispatch. -/
theorem sampleWordsDecode : Obligations.SampleWordsDecode := by
  unfold Obligations.SampleWordsDecode
  decide

end Sys2Proof
end

section
/-! The event output (spec/60_exceptions.md R206): no instruction reads it, so every instruction commutes with replacing it. -/

namespace Sys2Proof.Machine

/-- Another event output in place of the state's own (60_exceptions R206, log 5). -/
def State.setEvents (s : State) (es : List Event) : State := { s with events := es }

/-! ## The readers and the operations under another event output -/

section EventOutput

variable (s : State) (es : List Event)

@[simp] theorem State.setEvents_pc : (s.setEvents es).pc = s.pc := rfl
@[simp] theorem State.setEvents_wait : (s.setEvents es).wait = s.wait := rfl
@[simp] theorem State.setEvents_cfg : (s.setEvents es).cfg = s.cfg := rfl
@[simp] theorem State.setEvents_base : (s.setEvents es).base = s.base := rfl
@[simp] theorem State.setEvents_getV (x : Reg) : (s.setEvents es).getV x = s.getV x := rfl
@[simp] theorem State.setEvents_regsUpTo (x : Reg) : (s.setEvents es).regsUpTo x = s.regsUpTo x := rfl
@[simp] theorem State.setEvents_load (a n : Nat) : (s.setEvents es).load a n = s.load a n := rfl
@[simp] theorem State.setEvents_keysDown : (s.setEvents es).keysDown = s.keysDown := rfl
@[simp] theorem State.setEvents_keysNewlyDown : (s.setEvents es).keysNewlyDown = s.keysNewlyDown := rfl

theorem State.push_setEvents (w : Word) : (s.setEvents es).push w = (s.push w).map (·.setEvents es) := by
  by_cases h : s.sp.val < 16 <;> simp [State.push, State.setEvents, h, Except.map]

theorem State.pop_setEvents : (s.setEvents es).pop = s.pop.map (fun p => (p.1, p.2.setEvents es)) := by
  by_cases h : 0 < s.sp.val <;> simp [State.pop, State.setEvents, h, Except.map]

theorem State.store_setEvents (a : Nat) (bs : List Byte) :
    (s.setEvents es).store a bs = (s.store a bs).map (·.setEvents es) := by
  unfold State.store
  split <;> rfl

theorem State.waitLevel_setEvents (x : Reg) : (s.setEvents es).waitLevel x = (s.waitLevel x).setEvents es := by
  unfold State.waitLevel
  rw [State.setEvents_keysDown]
  cases s.keysDown <;> rfl

theorem State.waitEdge_setEvents (x : Reg) : (s.setEvents es).waitEdge x = (s.waitEdge x).setEvents es := by
  unfold State.waitEdge
  rw [State.setEvents_wait, State.setEvents_keysNewlyDown]
  cases s.wait
  · rfl
  · cases s.keysNewlyDown <;> rfl

/-- An instruction with a check answers alike when what the check gives differs in the event output alone. -/
theorem State.orRaise_setEvents {t : State} {r q : Except Cause State} (hq : q = r.map (·.setEvents es))
    (h : s.orRaise r = .next t) : (s.setEvents es).orRaise q = .next (t.setEvents es) := by
  subst hq
  cases r <;> cases h <;> rfl

end EventOutput

/-! ## Every instruction under another event output -/

theorem exec_setEvents {s t : State} {i : Instr} (es : List Event) (h : exec i s = .next t) :
    exec i (s.setEvents es) = .next (t.setEvents es) := by
  cases i
  case call =>
    refine State.orRaise_setEvents s es ?_ h
    rw [State.push_setEvents, State.setEvents_pc]
    cases s.push s.pc <;> rfl
  case ret =>
    refine State.orRaise_setEvents s es ?_ h
    rw [State.pop_setEvents]
    cases s.pop <;> rfl
  case ldB | stRegs =>
    refine State.orRaise_setEvents s es ?_ h
    simp only [State.store_setEvents, State.setEvents_base, State.setEvents_getV, State.setEvents_regsUpTo]
    cases s.store s.base _ <;> rfl
  case drw | ldRegs =>
    refine State.orRaise_setEvents s es ?_ h
    rw [State.setEvents_load, State.setEvents_base]
    cases s.load s.base _ <;> rfl
  case skp x | sknp x =>
    refine State.orRaise_setEvents s es ?_ h
    rw [State.setEvents_getV]
    cases keyOf (s.getV x) <;> rfl
  case ldVxK =>
    simp only [exec, execLdVxK, State.setEvents_cfg, State.waitLevel_setEvents, State.waitEdge_setEvents] at h ⊢
    cases hc : s.cfg.fx0aTrigger <;> rw [hc] at h <;> cases h <;> rfl
  all_goals
    obtain rfl := Host.Outcome.next.inj h
    rfl

/-- Settles O20: another event output is written by `State.setEvents`, and every instruction commutes with it. -/
theorem eventOutputIsNeverRead : Obligations.EventOutputIsNeverRead :=
  fun _ _ _ es h => exec_setEvents es h

end Sys2Proof.Machine
end

section
/-! Control transfer (spec/40_control.md): the targets of jumps and skips as numbers, the call and the return at either end of the
stack, and the jump to its own address (spec/60_exceptions.md R227). -/

namespace Sys2Proof.Machine

variable {s t : State} {i : Instr} {w : Word} {nnn : Addr12}

/-- The decoder's row and the round trip of the decoder, in the form the statements use (30_encoding R72). -/
theorem encodedAs_row (i : Instr) : EncodedAs i i.row.value i.row.mask :=
  ⟨(encode_in_row i).1, decodeWord_encode i⟩

/-! ## Instructions that write PC alone -/

theorem onlyJumps_of_setPc {n : Nat} (h : exec i s = .next (s.setPc w)) (hw : w.toNat = n) : OnlyJumps i s n :=
  ⟨_, h, hw, fun r _ => s.setPc_getV w r, s.setPc_peek w, rfl⟩

theorem addrWord_toNat (nnn : Addr12) : (addrWord nnn).toNat = nnn.toNat :=
  BitVec.toNat_setWidth_of_le (by decide)

/-- The sum fits a word, so the target of BNNN is not truncated (40_control R93). -/
theorem State.offsetTarget_toNat (s : State) (nnn : Addr12) :
    (s.offsetTarget nnn).toNat = nnn.toNat + (s.getV 0).toNat := by
  have hn := nnn.isLt
  have hv := (s.getV 0).isLt
  simp only [State.offsetTarget, BitVec.toNat_ofNat]
  omega

/-- Settles O29: both targets fit the program counter. -/
theorem jumpsWriteOnlyPc : Obligations.JumpsWriteOnlyPc := fun s nnn =>
  ⟨⟨onlyJumps_of_setPc rfl (addrWord_toNat nnn), encodedAs_row (.jp nnn)⟩,
    ⟨onlyJumps_of_setPc rfl (s.offsetTarget_toNat nnn), encodedAs_row (.jpV0 nnn)⟩⟩

/-- A skip on `c` adds 4 when `c` holds and 2 otherwise (30_encoding R79, 40_control R98). -/
theorem onlyJumps_of_skipIf {c : Bool} (h : exec i s = .next (s.skipIf c)) :
    OnlyJumps i s ((s.pc.toNat + if c then 4 else 2) % 65536) := by
  refine onlyJumps_of_setPc h ?_
  cases c <;> exact BitVec.toNat_add ..

/-- Settles O33: each of the four is a skip on its condition; 4XNN and 9XY0 test the opposite of an equality. -/
theorem skipsAddFourOrTwo : Obligations.SkipsAddFourOrTwo := by
  intro s x y nn
  refine ⟨⟨?_, encodedAs_row (.seImm x nn)⟩, ⟨?_, encodedAs_row (.sneImm x nn)⟩,
    ⟨?_, encodedAs_row (.seReg x y)⟩, ⟨?_, encodedAs_row (.sneReg x y)⟩⟩
  · simpa using onlyJumps_of_skipIf (i := .seImm x nn) (s := s) rfl
  · simpa using onlyJumps_of_skipIf (i := .sneImm x nn) (s := s) rfl
  · simpa using onlyJumps_of_skipIf (i := .seReg x y) (s := s) rfl
  · simpa using onlyJumps_of_skipIf (i := .sneReg x y) (s := s) rfl

/-! ## Call and return -/

theorem State.slot_of_stack_set {n : Nat} (hn : n < 16) (h : t.stack = s.stack.set n w hn) (k : Fin 16) :
    t.slot k = if k.val = n then w else s.slot k := by
  simp only [State.slot, h, Vector.getElem_set, eq_comm]

/-- 2NNN at depth 16 takes its fault (40_control R92). -/
theorem call_takesStackOverflow (nnn : Addr12) (h : s.sp = 16) : TakesFault (.call nnn) s .stackOverflow := by
  simp only [TakesFault, exec, execCall, State.push_full _ h]
  rfl

/-- 00EE at depth 0 takes its fault (40_control R90). -/
theorem ret_takesStackUnderflow (h : s.sp = 0) : TakesFault .ret s .stackUnderflow := by
  simp only [TakesFault, exec, execRet, State.pop_empty h]
  rfl

/-- Settles O30: the one slot written is the old top, and it holds the address of the call. -/
theorem callPushesItsOwnAddress : Obligations.CallPushesItsOwnAddress := by
  intro s nnn
  refine ⟨encodedAs_row (.call nnn), fun hlt => ?_, call_takesStackOverflow nnn⟩
  exact ⟨_, exec_call_next nnn hlt, rfl, addrWord_toNat nnn, State.slot_of_stack_set hlt rfl, fun _ _ => rfl, fun _ => rfl, rfl⟩

/-- Settles O31: the pop moves SP and PC and leaves the stack as it is. -/
theorem returnPopsAndAddsTwo : Obligations.ReturnPopsAndAddsTwo := by
  intro s
  refine ⟨encodedAs_row .ret, fun k hk => ?_, ret_takesStackUnderflow⟩
  exact ⟨_, exec_ret_next k hk, rfl, BitVec.toNat_add .., fun _ => rfl, fun _ _ => rfl, fun _ => rfl, rfl⟩

/-! ## The jump to its own address (60_exceptions R227) -/

/-- The step of 1NNN: besides PC only OP and WAIT are written (30_encoding R70, 40_control R91). -/
theorem step_jp (hf : s.fault = false) (hw : s.fetchWord = .ok w) (hd : decodeWord w = some (.jp nnn)) :
    step s = .next (((s.setOp w).setPc (addrWord nnn)).setWait false) := by
  have hclear : ((s.setOp w).setPc (addrWord nnn)).afterExec (.jp nnn) = ((s.setOp w).setPc (addrWord nnn)).setWait false :=
    State.afterExec_of_clears (by simp) hf
  exact (step_decoded hf hw hd).trans (congrArg Host.Outcome.next hclear)

/-- A jump to its own address leaves PC as it is. -/
theorem step_jp_self (hf : s.fault = false) (hw : s.fetchWord = .ok w) (hd : decodeWord w = some (.jp nnn))
    (hself : addrWord nnn = s.pc) : step s = .next ((s.setOp w).setWait false) := by
  rw [step_jp hf hw hd, hself]
  rfl

/-- Settles O55: the fetch reads neither OP nor WAIT, so the second step fetches the same word and writes both again. -/
theorem settledStaysSettled : Obligations.SettledStaysSettled := by
  rintro s ⟨hf, w, nnn, hw, hd, hself⟩
  have hfetch : ((s.setOp w).setWait false).fetchWord = .ok w := hw
  exact ⟨_, step_jp_self hf hw hd hself, rfl, hw, rfl, ⟨hf, w, nnn, hfetch, hd, hself⟩, step_jp_self hf hfetch hd hself⟩

end Sys2Proof.Machine
end

section
/-! Register loads and the ALU (spec/41_alu.md): what a write of V[X] alone, and of a flag and then V[X], completes; the values of
`Flags.lean` as numbers; and the seven statements of the family, assembled from these. -/

namespace Sys2Proof.Machine

variable {s : State} {i : Instr} {x : Reg} {b : Byte}

/-! ## The two forms of completion -/

theorem State.getV_writeReg_self (s : State) (x : Reg) (b : Byte) : (s.writeReg x b).getV x = b := by
  simp

theorem sameRegsBut_writeReg (s : State) (x : Reg) (b : Byte) : SameRegsBut s (s.writeReg x b) [x] := fun r hr =>
  (s.getV_writeReg x b r).trans (if_neg (List.ne_of_not_mem_cons hr))

theorem writesOneReg_of_writeReg (h : exec i s = .next (s.writeReg x b)) : WritesOneReg i s x b :=
  ⟨_, h, s.getV_writeReg_self x b, sameRegsBut_writeReg s x b, rfl, fun _ => rfl, s.writeReg_frame x b⟩

/-- The result stands for every X; the flag stands unless X = F, since V[X] is written last (00_scope R11). -/
theorem writesFlagAndReg_of_writeFlagged {f : Byte} {flag result : Nat} (h : exec i s = .next (s.writeFlagged x f b))
    (hf : f.toNat = flag) (hb : b.toNat = result) : WritesFlagAndReg i s x flag result := by
  have hx : (s.writeFlagged x f b).getV x = b := by simp
  have hvf : x ≠ vf → (s.writeFlagged x f b).getV vf = f := fun hne => by simp [hne.symm]
  have hothers : SameRegsBut s (s.writeFlagged x f b) [x, vf] := fun r hr => by
    obtain ⟨hrx, hrf⟩ : r ≠ x ∧ r ≠ vf := by simpa using hr
    simp [hrx, hrf]
  exact ⟨_, h, by rw [hx, hb], fun hne => by rw [hvf hne, hf], hothers, rfl, fun _ => rfl, s.writeFlagged_frame x f b⟩

/-! ## Flags and results as numbers (41_alu R110) -/

theorem carryFlag_toNat (a b : Byte) : (carryFlag a b).toNat = if a.toNat + b.toNat > 255 then 1 else 0 := by
  simp only [carryFlag, flagByte, decide_eq_true_eq]
  split <;> rfl

theorem noBorrowFlag_toNat (a b : Byte) : (noBorrowFlag a b).toNat = if b.toNat > a.toNat then 0 else 1 := by
  simp only [noBorrowFlag]
  split <;> rfl

theorem shrFlag_toNat (b : Byte) : (shrFlag b).toNat = b.toNat % 2 :=
  Nat.and_one_is_mod _

theorem shlFlag_toNat (b : Byte) : (shlFlag b).toNat = b.toNat / 128 :=
  Nat.shiftRight_eq_div_pow _ 7

theorem sumByte_toNat (a b : Byte) : (sumByte a b).toNat = (a.toNat + b.toNat) % 256 :=
  BitVec.toNat_ofNat ..

theorem differenceByte_toNat (a b : Byte) : (differenceByte a b).toNat = (a.toNat + 256 - b.toNat) % 256 :=
  BitVec.toNat_ofNat ..

theorem shrByte_toNat (b : Byte) : (shrByte b).toNat = b.toNat / 2 :=
  Nat.shiftRight_eq_div_pow _ 1

theorem shlByte_toNat (b : Byte) : (shlByte b).toNat = b.toNat * 2 % 256 := by
  simp [shlByte, Nat.shiftLeft_eq]

/-! ## V[X] alone -/

/-- Settles O22: the three loads differ only in the byte they write. -/
theorem registerLoads : Obligations.RegisterLoads := fun _ x y nn =>
  ⟨⟨writesOneReg_of_writeReg rfl, encodedAs_row (.ldImm x nn)⟩,
    ⟨writesOneReg_of_writeReg rfl, encodedAs_row (.ldReg x y)⟩,
    ⟨writesOneReg_of_writeReg rfl, encodedAs_row (.ldVxDt x)⟩⟩

/-- Settles O23: the sum is V[X]'s alone, so VF is in the frame. -/
theorem addImmediateWrapsWithoutCarry : Obligations.AddImmediateWrapsWithoutCarry := fun s x nn =>
  ⟨encodedAs_row (.addImm x nn), _, sumByte_toNat (s.getV x) nn, writesOneReg_of_writeReg rfl⟩

/-- Settles O24: OR, AND and XOR of bit vectors act on each bit. -/
theorem bitwiseOperations : Obligations.BitwiseOperations := fun _ x y =>
  ⟨⟨_, fun _ => BitVec.getLsbD_or, writesOneReg_of_writeReg rfl, encodedAs_row (.orReg x y)⟩,
    ⟨_, fun _ => BitVec.getLsbD_and, writesOneReg_of_writeReg rfl, encodedAs_row (.andReg x y)⟩,
    ⟨_, fun _ => BitVec.getLsbD_xor, writesOneReg_of_writeReg rfl, encodedAs_row (.xorReg x y)⟩⟩

/-! ## A flag, then V[X] -/

/-- Settles O25: carry and sum are both computed from the registers before either write. -/
theorem addSetsCarryBeforeResult : Obligations.AddSetsCarryBeforeResult := fun _ x y =>
  ⟨encodedAs_row (.addReg x y), writesFlagAndReg_of_writeFlagged rfl (carryFlag_toNat ..) (sumByte_toNat ..)⟩

/-- Settles O26: 8XY7 is 8XY5 with the operands exchanged. -/
theorem subtractionsSetNoBorrowBeforeResult : Obligations.SubtractionsSetNoBorrowBeforeResult := fun _ x y =>
  ⟨⟨encodedAs_row (.subReg x y),
      writesFlagAndReg_of_writeFlagged rfl (noBorrowFlag_toNat ..) (differenceByte_toNat ..)⟩,
    ⟨encodedAs_row (.subnReg x y),
      writesFlagAndReg_of_writeFlagged rfl (noBorrowFlag_toNat ..) (differenceByte_toNat ..)⟩⟩

/-- The source by SHIFT_SRC (41_alu R119, R121). -/
theorem State.shiftSource_eq {y : Reg}
    (h : (s.cfg.shiftSrc = .vx ∧ b = s.getV x) ∨ (s.cfg.shiftSrc = .vy ∧ b = s.getV y)) : s.shiftSource x y = b := by
  obtain ⟨hsrc, rfl⟩ | ⟨hsrc, rfl⟩ := h <;> simp only [State.shiftSource, hsrc]

/-- Settles O27: whichever register SHIFT_SRC names, flag and result come from that one byte. -/
theorem shiftsByOne : Obligations.ShiftsByOne := by
  intro s x y b h
  obtain rfl := State.shiftSource_eq h
  exact ⟨⟨encodedAs_row (.shr x y), writesFlagAndReg_of_writeFlagged rfl (shrFlag_toNat _) (shrByte_toNat _)⟩,
    ⟨encodedAs_row (.shl x y), writesFlagAndReg_of_writeFlagged rfl (shlFlag_toNat _) (shlByte_toNat _)⟩⟩

/-! ## The random byte -/

/-- Where the mask has a 0 the result has a 0, whatever the other byte is (41_alu R122). -/
theorem getLsbD_and_of_mask {r mask : Byte} {k : Nat} (h : mask.getLsbD k = false) : (r &&& mask).getLsbD k = false := by
  rw [BitVec.getLsbD_and, h, Bool.and_false]

/-- Settles O28: no value of the draw is used; CXNN writes V[X] as 6XNN does, and counting the draw touches no register. -/
theorem randomByteIsMaskedByTheImmediate : Obligations.RandomByteIsMaskedByTheImmediate := by
  intro s x nn
  refine ⟨encodedAs_row (.rnd x nn), (s.writeReg x (s.drawRand &&& nn)).countDraw, rfl, ?_⟩
  have hx : (s.writeReg x (s.drawRand &&& nn)).countDraw.getV x = Config.rand s.draws &&& nn :=
    s.getV_writeReg_self x (s.drawRand &&& nn)
  refine ⟨hx, fun k hk => ?_, rfl, sameRegsBut_writeReg s x (s.drawRand &&& nn), rfl, fun _ => rfl, rfl⟩
  rw [hx]
  exact getLsbD_and_of_mask hk

end Sys2Proof.Machine
end

section
/-! The index register and memory transfer (spec/42_index_memory.md): the values written to I and to VF as numbers, an access whose
range passes its check or fails it (spec/20_memory.md R52), and the six statements of the family, assembled from these. -/

namespace Sys2Proof.Machine

variable {s t : State}

/-! ## The index register -/

/-- Five times a byte fits a word, so the glyph address is not truncated (42_index_memory R142). -/
theorem glyphAddress_toNat (b : Byte) : (glyphAddress b).toNat = 5 * b.toNat := by
  have hb := b.isLt
  simp only [glyphAddress, BitVec.toNat_ofNat]
  omega

/-- Settles O35: neither value is truncated to a word. -/
theorem indexLoads : Obligations.IndexLoads := fun s nnn x =>
  ⟨⟨encodedAs_row (.ldI nnn), _, rfl, addrWord_toNat nnn, rfl, fun _ _ => rfl, fun _ => rfl, rfl⟩,
    ⟨encodedAs_row (.ldF x), _, rfl, glyphAddress_toNat (s.getV x), rfl, fun _ _ => rfl, fun _ => rfl, rfl⟩⟩

theorem State.indexPlus_toNat (s : State) (b : Byte) : (s.indexPlus b).toNat = (s.index.toNat + b.toNat) % 65536 :=
  BitVec.toNat_ofNat ..

theorem rangeFlag_toNat (w : Word) : (rangeFlag w).toNat = if w.toNat > 0xFFF then 1 else 0 := by
  simp only [rangeFlag, flagByte, decide_eq_true_eq]
  split <;> rfl

/-- Settles O36: V[X] is read before VF is written, and the flag is that of the word stored in I. -/
theorem addToIndexSetsTheRangeFlag : Obligations.AddToIndexSetsTheRangeFlag := by
  intro s x
  refine ⟨encodedAs_row (.addI x), _, rfl, s.indexPlus_toNat (s.getV x), ?flag, fun r hr => ?others, rfl, fun _ => rfl, rfl⟩
  case flag => simp [rangeFlag_toNat]
  case others => simp [List.ne_of_not_mem_cons hr]

/-- With LDST_INC = XPLUS1, FX55 and FX65 move I past the bytes they accessed (42_index_memory R144, R145). -/
theorem State.indexAfter_xplus1_toNat (x : Reg) (h : s.cfg.ldstInc = .xplus1) :
    (s.indexAfter x).toNat = (s.index.toNat + x.val + 1) % 65536 := by
  simp [State.indexAfter, h]

/-! ## An access inside memory, and one that passes 0xFFF -/

theorem rangeOk_eq_false {a n : Nat} (h : memSize < a + n) (hn : 0 < n) : rangeOk a n = false := by
  simp only [rangeOk, decide_eq_false_iff_not]
  omega

theorem State.store_range {a : Nat} {bs : List Byte} (h : memSize < a + bs.length) (hn : 0 < bs.length) :
    s.store a bs = .error .dataRange :=
  if_neg (Bool.eq_false_iff.1 (rangeOk_eq_false h hn))

theorem State.load_range {a n : Nat} (h : memSize < a + n) (hn : 0 < n) : s.load a n = .error .dataRange :=
  if_neg (Bool.eq_false_iff.1 (rangeOk_eq_false h hn))

theorem State.load_ok {a n : Nat} (h : a + n ≤ memSize) :
    s.load a n = .ok ((List.range n).map (fun k => s.peek (a + k))) :=
  State.load_eq_ok.2 ⟨rangeOk_iff.2 (.inr h), rfl⟩

theorem sameMemoryOutside_of_store {a : Nat} {bs : List Byte} (h : s.store a bs = .ok t) :
    SameMemoryOutside s t a bs.length := fun b hb => by
  rw [State.peek_of_store h, if_neg (by omega)]

/-! ## FX33 -/

/-- FX33 whose three bytes lie at or below 0xFFF stores the digits (42_index_memory R143). -/
theorem exec_ldB_next (x : Reg) (h : s.base + 2 ≤ 0xFFF) :
    ∃ u, s.store s.base (decimalDigits (s.getV x)) = .ok u ∧ exec (.ldB x) s = .next u.advance := by
  have hlen : s.base + (decimalDigits (s.getV x)).length ≤ memSize := Nat.succ_le_succ h
  refine ⟨_, State.store_ok hlen, ?_⟩
  simp only [exec, execLdB, State.store_ok hlen]
  rfl

theorem ldB_takesDataRange (x : Reg) (h : 0xFFF < s.base + 2) : TakesFault (.ldB x) s .dataRange := by
  have hlen : memSize < s.base + (decimalDigits (s.getV x)).length := Nat.succ_lt_succ h
  simp only [TakesFault, exec, execLdB, State.store_range hlen (Nat.zero_lt_succ 2)]
  rfl

/-- A byte has three decimal digits, and each fits a byte (42_index_memory R143). -/
theorem decimalDigits_eq (b : Byte) : ∃ hundreds tens ones : Byte, decimalDigits b = [hundreds, tens, ones] ∧
    hundreds.toNat = b.toNat / 100 ∧ tens.toNat = b.toNat / 10 % 10 ∧ ones.toNat = b.toNat % 10 := by
  have hb := b.isLt
  refine ⟨_, _, _, rfl, ?_⟩
  simp only [BitVec.toNat_ofNat]
  omega

/-- Settles O37: the three digits are the three bytes stored. -/
theorem decimalDigitsAreStored : Obligations.DecimalDigitsAreStored := by
  intro s x
  refine ⟨encodedAs_row (.ldB x), fun hrange => ?_, ldB_takesDataRange x⟩
  obtain ⟨u, hu, he⟩ := exec_ldB_next x hrange
  obtain ⟨hundreds, tens, ones, hdigits, hhundreds, htens, hones⟩ := decimalDigits_eq (s.getV x)
  rw [hdigits] at hu
  have hpeek (k : Nat) (hk : k < 3) : u.peek (s.base + k) = [hundreds, tens, ones].getD k 0 :=
    State.peek_of_store_inside hu hk
  have houtside : SameMemoryOutside s u s.base 3 := sameMemoryOutside_of_store hu
  obtain ⟨-, rfl⟩ := State.store_eq_ok.1 hu
  exact ⟨_, he, (congrArg BitVec.toNat (hpeek 0 (by decide))).trans hhundreds,
    (congrArg BitVec.toNat (hpeek 1 (by decide))).trans htens, (congrArg BitVec.toNat (hpeek 2 (by decide))).trans hones,
    houtside, fun _ _ => rfl, rfl, rfl⟩

/-! ## FX55 and FX65 -/

theorem stRegs_takesDataRange (x : Reg) (h : 0xFFF < s.base + x.val) : TakesFault (.stRegs x) s .dataRange := by
  have hlen : memSize < s.base + (s.regsUpTo x).length := by
    rw [State.regsUpTo_length]
    exact Nat.succ_lt_succ h
  have hpos : 0 < (s.regsUpTo x).length := by simp [State.regsUpTo_length]
  simp only [TakesFault, exec, execStRegs, State.store_range hlen hpos]
  rfl

/-- Settles O38: the bytes stored are V[0] to V[X], and I is written after them. -/
theorem registersAreStoredInOrder : Obligations.RegistersAreStoredInOrder := by
  intro s x
  refine ⟨encodedAs_row (.stRegs x), fun hrange => ?_, stRegs_takesDataRange x⟩
  obtain ⟨u, hu, he⟩ := exec_stRegs_next x hrange
  have hpeek (k : Reg) (hk : k ≤ x) : u.peek (s.base + k.val) = s.getV k := State.peek_of_store_regsUpTo hu hk
  have houtside : SameMemoryOutside s u s.base (x.val + 1) := s.regsUpTo_length x ▸ sameMemoryOutside_of_store hu
  obtain ⟨-, rfl⟩ := State.store_eq_ok.1 hu
  exact ⟨_, he, hpeek, houtside, s.indexAfter_none x, s.indexAfter_xplus1_toNat x, fun _ _ => rfl, rfl, rfl⟩

/-- FX65 whose whole range lies at or below 0xFFF loads the bytes it reads (42_index_memory R145). -/
theorem exec_ldRegs_next (x : Reg) (h : s.base + x.val ≤ 0xFFF) :
    exec (.ldRegs x) s = .next ((s.setVs (s.loadRegs
      ((List.range (x.val + 1)).map (fun k => s.peek (s.base + k))))).setIndex (s.indexAfter x)).advance := by
  have hlen : s.base + (x.val + 1) ≤ memSize := Nat.succ_le_succ h
  simp only [exec, execLdRegs, State.load_ok hlen]
  rfl

theorem ldRegs_takesDataRange (x : Reg) (h : 0xFFF < s.base + x.val) : TakesFault (.ldRegs x) s .dataRange := by
  have hlen : memSize < s.base + (x.val + 1) := Nat.succ_lt_succ h
  simp only [TakesFault, exec, execLdRegs, State.load_range hlen (Nat.zero_lt_succ x.val)]
  rfl

/-- The register file FX65 leaves: V[0] to V[X] from memory, the rest kept (42_index_memory R145). -/
theorem State.getElem_loadRegs_range (s : State) (f : Nat → Byte) (x k : Reg) :
    (s.loadRegs ((List.range (x.val + 1)).map f))[k.val] = if k ≤ x then f k.val else s.getV k := by
  simp only [State.getElem_loadRegs, List.length_map, List.length_range, Nat.lt_succ_iff, Fin.le_def]
  split
  · simp [List.getD_eq_getElem?_getD, *]
  · rfl

/-- Settles O39: the bytes are all read before the registers are written, and I is written after them. -/
theorem registersAreLoadedInOrder : Obligations.RegistersAreLoadedInOrder := by
  intro s x
  refine ⟨encodedAs_row (.ldRegs x), fun hrange => ?_, ldRegs_takesDataRange x⟩
  exact ⟨_, exec_ldRegs_next x hrange, s.getElem_loadRegs_range _ x, s.indexAfter_none x, s.indexAfter_xplus1_toNat x,
    fun _ => rfl, rfl, rfl⟩

/-- Settles O40: FX65 reads at I + k the byte FX55 stored there, which is V[k]. -/
theorem storeThenLoadRestoresTheRegisters : Obligations.StoreThenLoadRestoresTheRegisters := by
  intro s t u x hrange hstore hmem hcfg hindex
  have hbase : u.base = s.base := congrArg BitVec.toNat hindex
  have hmemory : SameMemory t u := fun a => by simp only [State.peek, hmem, hcfg]
  obtain ⟨-, hstored, -⟩ := registersAreStoredInOrder s x
  obtain ⟨t', ht', hbytes, -⟩ := hstored hrange
  obtain rfl := Host.Outcome.next.inj (ht'.symm.trans hstore)
  obtain ⟨-, hloaded, -⟩ := registersAreLoadedInOrder u x
  obtain ⟨r, hr, hregs, -⟩ := hloaded (hbase ▸ hrange)
  refine ⟨r, hr, fun k hk => ?_⟩
  calc r.getV k
    _ = u.peek (u.base + k.val) := (hregs k).trans (if_pos hk)
    _ = t'.peek (s.base + k.val) := by rw [hbase, hmemory]
    _ = s.getV k := hbytes k hk

end Sys2Proof.Machine
end

section
/-! The display (spec/43_display.md): the state a draw in range leaves, its cells and its VF by the pixels of the sprite, the draw
whose sprite passes 0xFFF, and the three statements of the family, assembled from these. -/

namespace Sys2Proof.Machine

variable {s : State} {x y : Reg} {n : Fin 16} {p : Fin fbSize}

/-- Settles O42: the cleared framebuffer does not depend on the one before, and DRAW is set with no test of it. -/
theorem clearScreen : Obligations.ClearScreen := fun _ =>
  ⟨encodedAs_row .cls, _, rfl, fun _ => Vector.getElem_replicate _, rfl, rfl, fun _ _ => rfl, fun _ => rfl, rfl⟩

/-! ## The state a draw leaves -/

/-- The bytes of a sprite of `n` rows, MEM[I..] (43_display R161). -/
def State.spriteBytes (s : State) (n : Fin 16) : List Byte := (List.range n.val).map (fun k => s.peek (s.base + k))

/-- The state DXYN leaves when its sprite is in range: the framebuffer, VF, DRAW and PC (43_display R161). -/
def State.drawn (s : State) (x y : Reg) (n : Fin 16) : State :=
  (((s.setFb (s.drawSprite x y (s.spriteBytes n)).1).setV vf
    (flagByte (s.drawSprite x y (s.spriteBytes n)).2)).setDraw true).advance

/-- DXYN reads no byte for N = 0, so it is in range at every I then (43_display R161). -/
theorem exec_drw_next (x y : Reg) (h : n.val = 0 ∨ s.base + n.val - 1 ≤ 0xFFF) :
    exec (.drw x y n) s = .next (s.drawn x y n) := by
  have hload : s.load s.base n.val = .ok (s.spriteBytes n) :=
    State.load_eq_ok.2 ⟨rangeOk_iff.2 (h.imp_right Nat.le_add_of_sub_le), rfl⟩
  simp only [exec, execDrw, hload]
  rfl

theorem drw_takesDataRange (x y : Reg) (hn : 0 < n.val) (h : 0xFFF < s.base + n.val - 1) :
    TakesFault (.drw x y n) s .dataRange := by
  have hlen : memSize < s.base + n.val := Nat.add_lt_of_lt_sub h
  simp only [TakesFault, exec, execDrw, State.load_range hlen hn]
  rfl

/-! ## Its cells, its VF and what it keeps -/

theorem State.drawn_cell_of_pixel (h : DrawsPixel s x y n p) : (s.drawn x y n).cell p = !s.cell p := by
  classical exact (drawSprite_cell s x y n p).trans (if_pos h)

theorem State.drawn_cell_of_not_pixel (h : ¬ DrawsPixel s x y n p) : (s.drawn x y n).cell p = s.cell p := by
  classical exact (drawSprite_cell s x y n p).trans (if_neg h)

theorem State.drawn_getV (s : State) (x y : Reg) (n : Fin 16) (r : Reg) :
    (s.drawn x y n).getV r = if r = vf then flagByte (s.drawSprite x y (s.spriteBytes n)).2 else s.getV r := by
  simp [State.drawn]

theorem State.drawn_getV_of_ne {r : Reg} (h : r ≠ vf) : (s.drawn x y n).getV r = s.getV r :=
  (s.drawn_getV x y n r).trans (if_neg h)

theorem flagByte_eq_one {b : Bool} : flagByte b = 1 ↔ b = true := by cases b <;> decide

theorem flagByte_eq_zero {b : Bool} : flagByte b = 0 ↔ ¬ b = true := by cases b <;> decide

/-- VF after a draw is the collision (43_display R161). -/
theorem State.drawn_vf_eq_one : (s.drawn x y n).getV vf = 1 ↔ ∃ p, DrawsPixel s x y n p ∧ s.cell p = true := by
  rw [State.drawn_getV, if_pos rfl, flagByte_eq_one]
  exact drawSprite_hit s x y n

theorem State.drawn_vf_eq_zero : (s.drawn x y n).getV vf = 0 ↔ ¬ ∃ p, DrawsPixel s x y n p ∧ s.cell p = true := by
  rw [State.drawn_getV, if_pos rfl, flagByte_eq_zero]
  exact not_congr (drawSprite_hit s x y n)

/-- Settles O43: the cells and VF by the pixels of the sprite; VF is the one register a draw writes. -/
theorem drawXorsTheSpriteOntoTheCells : Obligations.DrawXorsTheSpriteOntoTheCells := by
  intro s x y n
  refine ⟨encodedAs_row (.drw x y n), fun hrange => ?_, drw_takesDataRange x y⟩
  exact ⟨s.drawn x y n, exec_drw_next x y hrange, fun _ => State.drawn_cell_of_pixel, fun _ => State.drawn_cell_of_not_pixel,
    State.drawn_vf_eq_one.2, State.drawn_vf_eq_zero.2, rfl, rfl,
    fun _ hr => State.drawn_getV_of_ne (List.ne_of_not_mem_cons hr), fun _ => rfl, rfl⟩

/-! ## Drawing twice -/

/-- A draw writes neither I nor memory, so it keeps its own pixels where neither coordinate is in VF (43_display R161). -/
theorem drawsPixel_drawn (hx : x ≠ vf) (hy : y ≠ vf) : DrawsPixel (s.drawn x y n) x y n p ↔ DrawsPixel s x y n p := by
  unfold DrawsPixel
  rw [State.drawn_getV_of_ne hx, State.drawn_getV_of_ne hy]
  rfl

theorem State.drawn_drawn_cell (hx : x ≠ vf) (hy : y ≠ vf) (p : Fin fbSize) :
    ((s.drawn x y n).drawn x y n).cell p = s.cell p := by
  by_cases h : DrawsPixel s x y n p
  · rw [State.drawn_cell_of_pixel ((drawsPixel_drawn hx hy).2 h), State.drawn_cell_of_pixel h, Bool.not_not]
  · rw [State.drawn_cell_of_not_pixel (mt (drawsPixel_drawn hx hy).1 h), State.drawn_cell_of_not_pixel h]

/-- The second draw collides where the first one set a cell (43_display R161, log 17). -/
theorem State.drawn_drawn_vf_eq_one (hx : x ≠ vf) (hy : y ≠ vf) :
    ((s.drawn x y n).drawn x y n).getV vf = 1 ↔ ∃ p, DrawsPixel s x y n p ∧ s.cell p = false := by
  rw [State.drawn_vf_eq_one]
  refine exists_congr fun p => ?_
  rw [drawsPixel_drawn hx hy]
  exact and_congr_right fun h => by rw [State.drawn_cell_of_pixel h, Bool.not_eq_true']

/-- Settles O44: the second draw has the pixels of the first, and each cell is flipped twice or not at all. -/
theorem drawingTwiceRestoresTheFramebuffer : Obligations.DrawingTwiceRestoresTheFramebuffer := by
  intro s t u x y n hx hy hrange hfirst hsecond
  obtain rfl := Host.Outcome.next.inj ((exec_drw_next x y hrange).symm.trans hfirst)
  obtain rfl := Host.Outcome.next.inj ((exec_drw_next (s := s.drawn x y n) x y hrange).symm.trans hsecond)
  exact ⟨Vector.ext fun k hk => State.drawn_drawn_cell hx hy ⟨k, hk⟩, State.drawn_drawn_vf_eq_one hx hy⟩

end Sys2Proof.Machine
end

section
/-! The keypad and the timers (spec/44_keypad_timers.md): the test of the key a register names, the writes of the timers, the
draw of a key from a set, FX0A branch by branch, and the four statements of the family, assembled from these. -/

namespace Sys2Proof.Machine

variable {s : State} {x : Reg} {j k : Key} {ks : List Key}

/-! ## The test of a key -/

theorem exec_skp_next (h : (s.getV x).toNat = k.val) : exec (.skp x) s = .next (s.skipIf (s.pressed k)) := by
  simp only [exec, execSkp, keyOf_eq_some.2 h]
  rfl

theorem exec_sknp_next (h : (s.getV x).toNat = k.val) : exec (.sknp x) s = .next (s.skipIf (!s.pressed k)) := by
  simp only [exec, execSknp, keyOf_eq_some.2 h]
  rfl

theorem skp_takesKeyRange (h : 0xF < (s.getV x).toNat) : TakesFault (.skp x) s .keyRange := by
  simp only [TakesFault, exec, execSkp, keyOf_eq_none.2 h]
  rfl

theorem sknp_takesKeyRange (h : 0xF < (s.getV x).toNat) : TakesFault (.sknp x) s .keyRange := by
  simp only [TakesFault, exec, execSknp, keyOf_eq_none.2 h]
  rfl

/-- Settles O34: both are a skip on the key V[X] names, on its bit and on the opposite, and above 0xF it names none. -/
theorem keySkipsTestTheNamedKey : Obligations.KeySkipsTestTheNamedKey := by
  intro s x
  refine ⟨encodedAs_row (.skp x), encodedAs_row (.sknp x), fun k hk => ⟨?down, ?up⟩,
    fun h => ⟨skp_takesKeyRange h, sknp_takesKeyRange h⟩⟩
  case down => exact onlyJumps_of_skipIf (exec_skp_next hk)
  case up => simpa only [Bool.not_eq_true', ← Bool.not_eq_true, ite_not] using onlyJumps_of_skipIf (exec_sknp_next hk)

/-! ## The timers -/

/-- Settles O45: V[X] is written as it is, into the one timer. -/
theorem timerWrites : Obligations.TimerWrites := fun _ x =>
  ⟨⟨encodedAs_row (.ldDtVx x), _, rfl, rfl, rfl, fun _ _ => rfl, fun _ => rfl, rfl⟩,
    ⟨encodedAs_row (.ldStVx x), _, rfl, rfl, rfl, fun _ _ => rfl, fun _ => rfl, rfl⟩⟩

/-! ## The draw of a key -/

theorem pickKey_mem (n : Nat) (k : Key) (ks : List Key) : pickKey n k ks ∈ k :: ks :=
  List.getElem_mem _

/-- A number below the size of the set picks the key at that place (60_exceptions R223). -/
theorem pickKey_of_lt {n : Nat} (h : n < (k :: ks).length) : pickKey n k ks = (k :: ks)[n] := by
  have hmod : n % (ks.length + 1) = n := Nat.mod_eq_of_lt h
  simp only [pickKey, hmod]

theorem exists_pickKey_eq (h : j ∈ k :: ks) : ∃ n, pickKey n k ks = j := by
  obtain ⟨n, hn, rfl⟩ := List.getElem_of_mem h
  exact ⟨n, pickKey_of_lt hn⟩

/-- Settles O47: every number picks some place of the list, and the place of a key picks that key. -/
theorem keyChoiceAdmitsEveryMember : Obligations.KeyChoiceAdmitsEveryMember := fun k ks =>
  ⟨fun n => pickKey_mem n k ks, fun _ => exists_pickKey_eq⟩

/-! ## The keys that qualify -/

theorem State.keysDown_eq_nil (h : ∀ k, s.pressed k = false) : s.keysDown = [] :=
  List.eq_nil_iff_forall_not_mem.2 fun k hk => by simp [State.mem_keysDown, h k] at hk

theorem State.keysDown_eq_cons (h : s.pressed j = true) : ∃ k ks, s.keysDown = k :: ks :=
  List.exists_cons_of_ne_nil (List.ne_nil_of_mem (State.mem_keysDown.2 h))

theorem State.keysNewlyDown_eq_nil (h : ∀ k, s.pressed k = true → s.snapped k = true) : s.keysNewlyDown = [] :=
  List.eq_nil_iff_forall_not_mem.2 fun k hk => by
    obtain ⟨hdown, hup⟩ := State.mem_keysNewlyDown.1 hk
    exact Bool.false_ne_true (hup.symm.trans (h k hdown))

theorem State.keysNewlyDown_eq_cons (hdown : s.pressed j = true) (hup : s.snapped j = false) :
    ∃ k ks, s.keysNewlyDown = k :: ks :=
  List.exists_cons_of_ne_nil (List.ne_nil_of_mem (State.mem_keysNewlyDown.2 ⟨hdown, hup⟩))

/-! ## FX0A -/

/-- A key's number fits a byte, so V[X] holds it whole (44_keypad_timers R183). -/
theorem State.getV_takeKey_toNat (s : State) (x : Reg) (k : Key) (ks : List Key) :
    ((s.takeKey x k ks).getV x).toNat = (s.drawKey k ks).val := by
  have hlt : (s.drawKey k ks).val < 2 ^ 8 := (s.drawKey k ks).isLt.trans (by decide)
  calc ((s.takeKey x k ks).getV x).toNat
    _ = (BitVec.ofNat 8 (s.drawKey k ks).val).toNat := congrArg BitVec.toNat (s.getV_writeReg_self x _)
    _ = (s.drawKey k ks).val := Nat.mod_eq_of_lt hlt

theorem sameRegsBut_takeKey (s : State) (x : Reg) (k : Key) (ks : List Key) : SameRegsBut s (s.takeKey x k ks) [x] :=
  sameRegsBut_writeReg s x _

theorem exec_ldVxK_level_none (hc : s.cfg.fx0aTrigger = .level) (h : s.keysDown = []) :
    exec (.ldVxK x) s = .next s := by
  simp only [exec, execLdVxK, hc, State.waitLevel, h]

theorem exec_ldVxK_level_some (hc : s.cfg.fx0aTrigger = .level) (h : s.keysDown = k :: ks) :
    exec (.ldVxK x) s = .next (s.takeKey x k ks) := by
  simp only [exec, execLdVxK, hc, State.waitLevel, h]

theorem exec_ldVxK_edge_first (hc : s.cfg.fx0aTrigger = .edge) (hw : s.wait = false) :
    exec (.ldVxK x) s = .next (s.setWait true).snapKeys := by
  simp only [exec, execLdVxK, hc, State.waitEdge, hw, Bool.false_eq_true, if_false]

theorem exec_ldVxK_edge_none (hc : s.cfg.fx0aTrigger = .edge) (hw : s.wait = true) (h : s.keysNewlyDown = []) :
    exec (.ldVxK x) s = .next s.snapKeys := by
  simp only [exec, execLdVxK, hc, State.waitEdge, hw, if_true, h]

theorem exec_ldVxK_edge_some (hc : s.cfg.fx0aTrigger = .edge) (hw : s.wait = true) (h : s.keysNewlyDown = k :: ks) :
    exec (.ldVxK x) s = .next ((s.takeKey x k ks).setWait false) := by
  simp only [exec, execLdVxK, hc, State.waitEdge, hw, if_true, h]

/-- Settles O46: in each mode the list of qualifying keys is empty or not, and the key is drawn from that list. -/
theorem waitForKeyByLevelOrEdge : Obligations.WaitForKeyByLevelOrEdge := by
  intro s x
  refine ⟨encodedAs_row (.ldVxK x), fun hc => ⟨fun hnone => ?levelNone, ?levelSome⟩,
    fun hc => ⟨exec_ldVxK_edge_first hc, fun hw hnone => ?edgeNone, fun hw => ?edgeSome⟩⟩
  case levelNone => exact exec_ldVxK_level_none hc (State.keysDown_eq_nil hnone)
  case edgeNone => exact exec_ldVxK_edge_none hc hw (State.keysNewlyDown_eq_nil hnone)
  case levelSome =>
    rintro ⟨i, hi⟩
    obtain ⟨k, ks, hks⟩ := State.keysDown_eq_cons hi
    have hmem (j : Key) : j ∈ k :: ks ↔ s.pressed j = true := hks ▸ State.mem_keysDown
    exact ⟨_, k, ks, exec_ldVxK_level_some hc hks, hmem, fun j hj => exists_pickKey_eq ((hmem j).2 hj),
      s.getV_takeKey_toNat x k ks, s.drawKey_mem k ks, sameRegsBut_takeKey s x k ks, rfl, fun _ => rfl, rfl⟩
  case edgeSome =>
    rintro ⟨i, hdown, hup⟩
    obtain ⟨k, ks, hks⟩ := State.keysNewlyDown_eq_cons hdown hup
    have hmem (j : Key) : j ∈ k :: ks ↔ s.pressed j = true ∧ s.snapped j = false := hks ▸ State.mem_keysNewlyDown
    exact ⟨_, k, ks, exec_ldVxK_edge_some hc hw hks, hmem, fun j hd hu => exists_pickKey_eq ((hmem j).2 ⟨hd, hu⟩),
      s.getV_takeKey_toNat x k ks, s.drawKey_mem k ks, sameRegsBut_takeKey s x k ks, rfl, fun _ => rfl, rfl⟩

end Sys2Proof.Machine
end

section
/-! Faults and the host's transactions (spec/60_exceptions.md): the timers under TICK, the image under LOAD, what a fault writes,
which instruction takes which, and the faulted state under every transaction. -/

namespace Sys2Proof.Machine

variable {s t : State} {i : Instr} {bytes : List Byte}

/-! ## TICK, KEYSET and DRAWACK -/

theorem tickByte_toNat (b : Byte) : (tickByte b).toNat = b.toNat - 1 := by
  unfold tickByte
  split
  · exact BitVec.toNat_sub_of_le (BitVec.le_def.2 ‹_›)
  · have hzero : b.toNat = 0 := by omega
    simp [hzero]

/-- Settles O48: each timer is one less with floor 0, and the tick writes nothing else. -/
theorem tickDecrementsBothTimers : Obligations.TickDecrementsBothTimers :=
  fun s => ⟨tickByte_toNat s.dt, tickByte_toNat s.st, rfl⟩

/-- Settles O51: KEYSET is the write of one key, DRAWACK the write of DRAW. -/
theorem hostWritesKeysAndClearsDraw : Obligations.HostWritesKeysAndClearsDraw :=
  fun s k b => ⟨s.pressed_setKey k b, rfl, rfl⟩

/-- Subtraction with floor 0 composes, so the ticks add up (60_exceptions R211). -/
theorem State.ticks_timers (s : State) (n : Nat) :
    (s.transactAll (List.replicate n .tick)).dt.toNat = s.dt.toNat - n ∧
    (s.transactAll (List.replicate n .tick)).st.toNat = s.st.toNat - n := by
  induction n generalizing s with
  | zero => exact ⟨rfl, rfl⟩
  | succ n ih =>
    obtain ⟨hdt, hst⟩ := ih (s.transact .tick).1
    obtain ⟨hdt1, hst1, -⟩ := tickDecrementsBothTimers s
    exact ⟨hdt.trans (by omega), hst.trans (by omega)⟩

/-- The tone is off exactly while ST is 0 (60_exceptions R213). -/
theorem State.soundOn_eq_false : s.soundOn = false ↔ s.st.toNat = 0 := by
  simp [State.soundOn, BitVec.toNat_eq]

/-- Settles O49: ST after the ticks, compared with 0. -/
theorem ticksCountDownToZeroAndStay : Obligations.TicksCountDownToZeroAndStay := by
  intro s n
  obtain ⟨hdt, hst⟩ := s.ticks_timers n
  refine ⟨hdt, hst, ?_⟩
  rw [State.soundOn_eq_false, hst]
  exact Nat.sub_eq_zero_iff_le

/-! ## LOAD -/

theorem State.transact_load_refused (s : State) (h : progMax < bytes.length) :
    s.transact (.load bytes) = (s, .loadError) := by
  obtain ⟨hle, -⟩ | ⟨-, e⟩ := s.loadTransaction_cases bytes
  · omega
  · exact e

/-- An image that fits is a store of its bytes at 0x200 (60_exceptions R224). -/
theorem State.transact_load_stores (s : State) (h : bytes.length ≤ progMax) :
    ∃ t, s.store progBase bytes = .ok t ∧ s.transact (.load bytes) = (t, .ok) := by
  obtain ⟨-, e⟩ | ⟨hlt, -⟩ := s.loadTransaction_cases bytes
  · have hrange : progBase + bytes.length ≤ memSize := Nat.add_le_add_left h progBase
    exact ⟨_, State.store_ok hrange, e⟩
  · omega

/-- Settles O50: the image fits and is stored, or it is refused. -/
theorem loadCopiesTheImageOrRefuses : Obligations.LoadCopiesTheImageOrRefuses := by
  intro s bytes
  refine ⟨s.transact_load_refused, fun hlen => ?_⟩
  obtain ⟨t, hstore, hload⟩ := s.transact_load_stores hlen
  obtain ⟨-, hmem⟩ := State.store_eq_ok.1 hstore
  refine ⟨t, hload, fun k hk => ?image, sameMemoryOutside_of_store hstore, ?frame⟩
  case image => exact (State.peek_of_store_inside hstore hk).trans (List.getD_eq_getElem bytes 0 hk)
  case frame =>
    rw [hmem]
    rfl

/-! ## What a fault writes -/

/-- An own effect keeps FAULT, so only fault entry sets it (60_exceptions R201, R204). -/
theorem exec_faulted (hs : s.fault = false) (h : exec i s = .next t) (ht : t.fault = true) :
    ∃ c, causeOf i = some c ∧ t = s.raise c := by
  refine (exec_cases h).resolve_left fun ho => ?_
  obtain ⟨hkeep, -⟩ := frame_faultRecord (ownEffect_frame ho)
  simp [hkeep, hs] at ht

/-- Settles O11: the cause that fault entry records is the instruction's own. -/
theorem eachInstructionHasItsOneFaultCause : Obligations.EachInstructionHasItsOneFaultCause := by
  intro i s t hs h ht
  obtain ⟨c, hc, rfl⟩ := exec_faulted hs h ht
  exact ⟨c, hc, rfl⟩

@[simp] theorem State.afterExec_fault (t : State) (i : Instr) : (t.afterExec i).fault = t.fault := by
  unfold State.afterExec
  split <;> rfl

/-- Settles O10: the fetch faults, or the executed instruction does, which keeps WAIT; a decode error never does. -/
theorem faultsArePrecise : Obligations.FaultsArePrecise := by
  intro s t h ht
  obtain ⟨hs, ⟨hpc, rfl⟩ | ⟨-, w, hw, ⟨-, rfl⟩ | ⟨i, u, -, hu, rfl⟩⟩⟩ := step_cases h
  · exact .inl ⟨hpc, rfl⟩
  · simp [hs] at ht
  · rw [State.afterExec_fault] at ht
    obtain ⟨c, -, rfl⟩ := exec_faulted (s := s.setOp w) hs hu ht
    exact .inr ⟨w, c, hw, State.afterExec_of_keeps (.inr ht)⟩

/-! ## The faulted state -/

theorem State.transact_step_halted (hf : s.fault = true) : s.transact .step = (s, .notEnabled) := by
  simp [State.transact, State.stepTransaction, step_halted hf]

/-- With FAULT = 1 no step runs, and of the other transactions INIT alone writes the fault record (60_exceptions R203, R205). -/
theorem State.transact_faultRecord {tr : Transaction} (hf : s.fault = true) (hne : tr ≠ .init) :
    (s.transact tr).1.fault = s.fault ∧ (s.transact tr).1.fcause = s.fcause ∧ (s.transact tr).1.fpc = s.fpc ∧
      (s.transact tr).1.fop = s.fop := by
  cases tr with
  | init => exact absurd rfl hne
  | step =>
    rw [State.transact_step_halted hf]
    exact ⟨rfl, rfl, rfl, rfl⟩
  | load bytes =>
    obtain ⟨-, e⟩ | ⟨-, e⟩ := s.loadTransaction_cases bytes <;>
      rw [State.transact, e] <;> exact ⟨rfl, rfl, rfl, rfl⟩
  | tick | keySet | drawAck | read => exact ⟨rfl, rfl, rfl, rfl⟩

/-- Settles O12: each transaction but STEP does in the faulted state what it does in every state. -/
theorem faultedStateLastsUntilInit : Obligations.FaultedStateLastsUntilInit := by
  intro s hf
  refine ⟨step_halted hf, State.transact_step_halted hf, ?tick, fun k b => ?keySet, rfl,
    fun bytes => (loadCopiesTheImageOrRefuses s bytes).2, fun bytes => (loadCopiesTheImageOrRefuses s bytes).1,
    fun tr hne => ?record, rfl, rfl, rfl, rfl, rfl⟩
  case tick =>
    obtain ⟨hdt, hst, hframe⟩ := tickDecrementsBothTimers s
    exact ⟨_, rfl, hdt, hst, hframe⟩
  case keySet =>
    obtain ⟨hkeys, hframe, -⟩ := hostWritesKeysAndClearsDraw s k b
    exact ⟨_, rfl, hkeys, hframe⟩
  case record =>
    obtain ⟨hfault, hrest⟩ := State.transact_faultRecord hf hne
    exact ⟨hfault.trans hf, hrest⟩

end Sys2Proof.Machine
end

section
/-! Reset and hazards (spec/70_reset_and_hazards.md): INIT after INIT, and the first step after INIT. -/

namespace Sys2Proof.Machine

variable (s : State)

/-- INIT reads only the model's own fields, and it keeps those (70_reset_and_hazards R240, log 9). -/
@[simp] theorem State.init_init : s.init.init = s.init := rfl

/-- INIT leaves no program: every byte from 0x200 up is 0 (70_reset_and_hazards R242). -/
theorem State.peek_init_of_ge {a : Nat} (h : 0x200 ≤ a) : s.init.peek a = 0 :=
  (State.peek_resetWith s.cfg a).trans (resetByte_of_ge s.cfg.font (by omega))

theorem State.fetchWord_init : s.init.fetchWord = .ok 0x0000 := by
  have hpc : s.init.pc.toNat = 0x200 := rfl
  have hhi : s.init.peek 0x200 = 0 := s.peek_init_of_ge (by decide)
  have hlo : s.init.peek 0x201 = 0 := s.peek_init_of_ge (by decide)
  exact State.fetchWord_of_toNat (by omega) (by simp [hpc, hhi, hlo])

/-- The first step is the decode error of the word 0x0000, and OP and WAIT are written with what they held
(70_reset_and_hazards R242). -/
theorem step_init :
    step s.init = .next { s.init with events := s.init.events ++ [.decodeError 0x200 0x0000], pc := 0x202 } :=
  step_unassigned rfl s.fetchWord_init (by decide)

/-- Settles O54: a second INIT changes nothing, and the word it leaves at 0x200 is unassigned. -/
theorem initIsIdempotentAndLoadsNoProgram : Obligations.InitIsIdempotentAndLoadsNoProgram := by
  rintro s _ rfl
  exact ⟨s.init_init, fun a h _ => s.peek_init_of_ge h, step_init s⟩

end Sys2Proof.Machine
end
